-- ==== Sys2Proof/Word.lean ====
section
/-! DEFINITION. The words of the machine: bytes and 128-bit blocks (`20_memory.md` R50). -/

namespace Sys2Proof

/-- One byte of a block or of the texel buffer. -/
abbrev Byte := BitVec 8

/-- A 128-bit ASTC block, bit 0 the least significant (`00_scope.md` R11, `20_memory.md` R52). -/
abbrev Block := BitVec 128

/-- `ceil_div(a, b)` of `00_scope.md` R13. -/
def ceilDiv (a b : Nat) : Nat := (a + b - 1) / b

end Sys2Proof
end

