-- ==== Sys2Proof/Machine/Values.lean ====
section
/-! DEFINITION. The data types of the machine: the shapes of the registers, the per-command values of `10_state.md`
R38 and R39, and the host's accesses. Types only. -/

namespace Sys2Proof.Machine

/-- The mode of an integer sequence (`41_ise_codec.md` R120). -/
inductive IseMode where
  | trit
  | quint
  | plainBit
deriving DecidableEq, Repr

/-- `ISEParams`, the pair `(mode, numBits)` (`41_ise_codec.md` R120). -/
structure IseParams where
  mode : IseMode
  numBits : Nat
deriving DecidableEq, Repr

/-- `DecodedISEValue`: raw bits `m`, trit or quint `tq`, value `v` (`41_ise_codec.md` R129). -/
structure IseElem where
  m : Nat
  tq : Nat
  v : Nat
deriving DecidableEq, Repr

/-- A bit cursor (`40_bit_cursor.md` R103, `10_state.md` R39). -/
structure Cursor where
  start : Nat
  length : Nat
  forward : Bool
  ndx : Nat
deriving DecidableEq, Repr

/-- Four channels in the order R, G, B, A: endpoint channels, or the output of one texel (a byte or a binary32
pattern per channel). -/
structure Rgba where
  r : Nat
  g : Nat
  b : Nat
  a : Nat
deriving DecidableEq, Repr

/-- `ColorEndpointPair` with the flag of its mode (`43_color_endpoints_ldr.md` R191, R196). -/
structure EndpointPair where
  e0 : Rgba
  e1 : Rgba
  isHdr : Bool
deriving DecidableEq, Repr

/-- `TexelWeight`: one weight, and a second one only when the block is dual-plane
(`46_weight_interpolator.md` R283). -/
structure TexelWeight where
  plane0 : Nat
  plane1 : Option Nat
deriving DecidableEq, Repr

/-- `BlockModeInfo`, the record `bm` of `42_block_mode.md` R160. -/
structure BlockModeInfo where
  isError : Bool
  isVoidExtent : Bool
  isDualPlane : Bool
  gridW : Nat
  gridH : Nat
  ise : IseParams
deriving DecidableEq, Repr

/-- `FORM` of an ISE input: 0 is the plain form, 1 the block form (`10_state.md` R31). -/
inductive IseForm where
  | plain
  | block
deriving DecidableEq, Repr

/-- One record `BLOCK[k]` of an ISE input (`10_state.md` R31). -/
structure IseBlock where
  tq : Byte
  bits : Vector Byte 5
deriving DecidableEq, Repr

/-- `W_ISE_IN` or `E_ISE_IN` (`10_state.md` R31, R32). -/
structure IseInput where
  form : IseForm
  plain : Vector Byte 64
  block : Vector IseBlock 64
deriving DecidableEq, Repr

/-- The outcomes a command reports (`60_exceptions.md` R401). Codes 14 and 15 are never written (U27), so they are no
causes. -/
inductive Cause where
  | none
  | reservedMode
  | veHdrInLdr
  | veExtent
  | veInfNan
  | weightCount
  | weightBits
  | gridSize
  | dual4Part
  | cevCount
  | cevBits
  | hdrCemInLdr
  | cfgInvalid
  | encParam
deriving DecidableEq, Repr

/-- Which step of the running command comes next (`47_block_assembler.md` R300, `70_reset_and_hazards.md` R450). -/
inductive Phase where
  /-- no command runs -/
  | idle
  /-- a command has been started and its `CMD` code is the next instruction -/
  | command
  /-- a decode has latched its block and `blk[10:0]` is the next instruction -/
  | blockMode
  /-- the block is a normal one and its partition and CEM fields are the next instruction -/
  | endpoint
deriving DecidableEq, Repr

/-- The two ISE inputs. -/
inductive IseSide where
  /-- `W_ISE_IN`, register 7 -/
  | weights
  /-- `E_ISE_IN`, register 8 -/
  | endpoints
deriving DecidableEq, Repr

/-- The nine host-visible registers (`10_state.md` R20, R21), in the order of their numbers. -/
inductive Register where
  | cmd
  | status
  | cfg
  | blkIn
  | blkOut
  | veParams
  | nbParams
  | wIseIn
  | eIseIn
deriving DecidableEq, Repr

/-- The piece of a register that one host access addresses (log 9): the whole register, a byte of a block register, or an
entry of an ISE input. -/
inductive RegisterPart where
  | whole
  | byte (k : Nat)
  | form
  | plain (i : Nat)
  | tq (k : Nat)
  | bits (k j : Nat)
deriving DecidableEq, Repr

/-- What one host access addresses: a register of `10_state.md` R21, a byte or an entry of one, or a byte of `TX`. The
block registers and `TX` are accessed by byte (`20_memory.md` R59). -/
inductive Port where
  | cmd
  | status
  | cfg
  | blkInByte (k : Nat)
  | blkOutByte (k : Nat)
  | veParams
  | nbParams
  | iseForm (side : IseSide)
  | isePlain (side : IseSide) (i : Nat)
  | iseTq (side : IseSide) (k : Nat)
  | iseBits (side : IseSide) (k j : Nat)
  | tx (addr : Nat)
deriving DecidableEq, Repr

/-- One action of the host (`70_reset_and_hazards.md` R465). -/
inductive HostAct where
  /-- write `v` to a port -/
  | write (p : Port) (v : Nat)
  /-- read a port -/
  | read (p : Port)
  /-- do nothing while the codec makes one step -/
  | tick
  /-- poll `STATUS` until `BUSY` = 0 (`30_encoding.md` R92) -/
  | waitDone
  /-- the reset event (`70_reset_and_hazards.md` R440) -/
  | reset
deriving DecidableEq, Repr

/-- The test-vector categories of `48_block_generator.md` R375 that are built with the encode commands; random blocks use
no command. -/
inductive TestCategory where
  | voidExtent
  | weightGridSize
  | weightIse
  | endpointIse
  | cemCombination
  | partitionSeed
  | endpointValuePair
  | dualPlaneSelector
deriving DecidableEq, Repr

/-- One encode request of a sweep (`48_block_generator.md` R376): the inputs of `ENC_VOID`, or those of `ENC_NORMAL`.
R376 writes a triple (`NB_PARAMS`, `W_ISE_IN`, `E_ISE_IN` or "default") and does not say whether "default" may stand for
one ISE input alone; the model's DESIGN CHOICE is that it may stand for either of them or for both (log 23). A
missing input, `none`, is "default". -/
inductive EncodeRequest where
  | void (ve : BitVec 65)
  | normal (nb : BitVec 45) (w e : Option IseInput)
deriving DecidableEq, Repr

end Sys2Proof.Machine
end

