-- ==== Sys2Proof/Config.lean ====
section
/-! DEFINITION. What the spec leaves open, as constants without a body: nothing in Lean can evaluate them, so a
statement that holds, holds for every value of them. -/

namespace Sys2Proof

/-- The value the n-th read of an unspecified output returns while `BUSY` = 1 (`70_reset_and_hazards.md` R453, U30); the
reader truncates it to the width read. Log 5. -/
opaque Config.busyRead : Nat → Nat

/-- `RandomBlockSource(seed, index, format)`, 16 bytes (`48_block_generator.md` R377). R377 says "an integer seed" and
gives neither a sign nor a width; the model's DESIGN CHOICE is every integer (log 13). -/
opaque Config.randomBlockSource : Int → Nat → Nat → Block

/-- `SweepTable(format, testCategory)` (`48_block_generator.md` R376). Log 13. -/
opaque Config.sweepTable : Nat → Machine.TestCategory → List Machine.EncodeRequest

end Sys2Proof
end

