-- ==== Sys2Proof/Machine/State.lean ====
section
/-! DEFINITION. The state of the machine, its reset value, and the reasons a step can stop. -/

namespace Sys2Proof.Machine

/-- The texel buffer as cells in one canonical form: addresses strictly rising and below 2304 (`20_memory.md` R51). An
unlisted address holds no value (`10_state.md` R42), so no entry can equal it. -/
abbrev Memory := List Host.Cell

/-- The canonical form from an address on: every address at least `lo`, strictly rising, below 2304. -/
def Memory.wfFrom (lo : Nat) : Memory → Bool
  | [] => true
  | (a, _) :: m => decide (lo ≤ a) && decide (a < 2304) && Memory.wfFrom (a + 1) m

/-- The canonical form of `TX`. -/
def Memory.wf (m : Memory) : Bool := Memory.wfFrom 0 m

/-- The state. The first nine fields are the registers of `10_state.md` R21, `tx` is the texel buffer of R33, `phase`,
`blk` and `bm` are the per-command values of R38 that live from one step of a command to the next, and the last three
fields are the model's own (log 1, 5, 6). -/
structure State where
  /-- `CMD` (R22): the code of the running command, 0 between commands -/
  cmd : BitVec 3
  /-- `STATUS` (R23) -/
  status : BitVec 8
  /-- `CFG` (R24 to R26) -/
  cfg : BitVec 6
  /-- `BLK_IN` (R27) -/
  blkIn : Block
  /-- `BLK_OUT` (R28) -/
  blkOut : Block
  /-- `VE_PARAMS` (R29) -/
  veParams : BitVec 65
  /-- `NB_PARAMS` (R30) -/
  nbParams : BitVec 45
  /-- `W_ISE_IN` (R31) -/
  wIseIn : IseInput
  /-- `E_ISE_IN` (R32) -/
  eIseIn : IseInput
  /-- `TX` (R33) -/
  tx : Memory
  /-- the step of the running command that comes next (R35, R300) -/
  phase : Phase
  /-- the latched block `blk` (R38) -/
  blk : Block
  /-- the block-mode record `bm` (R38) -/
  bm : BlockModeInfo
  /-- the model's own: the host's actions still to come (log 1) -/
  host : List HostAct
  /-- the model's own: what the host's last read returned (log 6) -/
  readData : Nat
  /-- the model's own: how many free values have been used (log 5) -/
  freeCount : Nat
deriving DecidableEq, Repr

/-- Why a step stops. All three are raised by a host access, none by an instruction. -/
inductive Fault where
  /-- Raised by a host read of a `TX` byte that holds no value: "a fault of the host's program, not a zero"
  (`10_state.md` R42). Safe. -/
  | txUndefined (addr : Nat)
  /-- Raised by a host access to a `TX` address above 2303, which is outside the hardware (`20_memory.md` R60, U28).
  Safe. -/
  | txOutside (addr : Nat)
  /-- Raised by a host access to a byte or entry that its register does not have (`20_memory.md` R60, U28). Safe. -/
  | entryOutside (p : Port)
deriving DecidableEq, Repr

/-- Why an instruction has no meaning. -/
inductive Refusal where
  /-- Raised by an arm of `exec` for an instruction that is not modelled yet; no arm raises it now. Safe. -/
  | notModelled (mnemonic : String)
deriving DecidableEq, Repr

/-- The empty block-mode record: `bm` does not exist outside a command (`10_state.md` R41, log 10). -/
def BlockModeInfo.empty : BlockModeInfo :=
  { isError := false, isVoidExtent := false, isDualPlane := false, gridW := 0, gridH := 0, ise := ⟨.plainBit, 0⟩ }

/-- An ISE input with `FORM` = 0 and every entry 0 (`10_state.md` R41). -/
def IseInput.zero : IseInput :=
  { form := .plain, plain := Vector.replicate 64 0, block := Vector.replicate 64 ⟨0, Vector.replicate 5 0⟩ }

/-- The machine right after reset (`10_state.md` R41, `70_reset_and_hazards.md` R441): every register 0, no `TX` byte
with a value, no command running. -/
def State.reset : State :=
  { cmd := 0, status := 0, cfg := 0, blkIn := 0, blkOut := 0, veParams := 0, nbParams := 0,
    wIseIn := IseInput.zero, eIseIn := IseInput.zero, tx := [], phase := .idle, blk := 0,
    bm := BlockModeInfo.empty, host := [], readData := 0, freeCount := 0 }

end Sys2Proof.Machine
end

