-- ==== Sys2Proof/Machine/Flags.lean ====
section
/-! DEFINITION. The flags: the fields of `STATUS` (`10_state.md` R23, R36) and what start and end of a command make of
them (`70_reset_and_hazards.md` R450, `60_exceptions.md` R401 to R408). -/

namespace Sys2Proof.Machine

/-- The cause code of an outcome (R401). -/
def Cause.code : Cause → Nat
  | .none => 0
  | .reservedMode => 1
  | .veHdrInLdr => 2
  | .veExtent => 3
  | .veInfNan => 4
  | .weightCount => 5
  | .weightBits => 6
  | .gridSize => 7
  | .dual4Part => 8
  | .cevCount => 9
  | .cevBits => 10
  | .hdrCemInLdr => 11
  | .cfgInvalid => 12
  | .encParam => 13

/-- `STATUS.BUSY`, bit 0. -/
def statusBusy (st : BitVec 8) : Bool := st.getLsbD 0

/-- `STATUS.DONE`, bit 1. -/
def statusDone (st : BitVec 8) : Bool := st.getLsbD 1

/-- `STATUS.RESULT`, bit 2: true is `Error`. -/
def statusResult (st : BitVec 8) : Bool := st.getLsbD 2

/-- `STATUS.FAULT`, bit 3, sticky. -/
def statusFault (st : BitVec 8) : Bool := st.getLsbD 3

/-- `STATUS.CAUSE`, bits 7:4. -/
def statusCause (st : BitVec 8) : Nat := st.toNat / 16

/-- A `STATUS` value from its fields; `cause` is below 16. -/
def packStatus (busy done result fault : Bool) (cause : Nat) : BitVec 8 :=
  BitVec.ofNat 8 (busy.toNat + 2 * done.toNat + 4 * result.toNat + 8 * fault.toNat + 16 * cause)

/-- `STATUS` at the start of a command: `BUSY` set, `DONE` cleared, the rest kept (R450). -/
def startStatus (st : BitVec 8) : BitVec 8 :=
  packStatus true false (statusResult st) (statusFault st) (statusCause st)

/-- `STATUS` at the end of a command: `BUSY` cleared, `DONE` set, `RESULT` and `CAUSE` written, `FAULT` set when
`raiseFault` and kept otherwise (R328, R404, R406, R408, R450). -/
def endStatus (cause : Cause) (raiseFault : Bool) (st : BitVec 8) : BitVec 8 :=
  packStatus false true (decide (cause ≠ .none)) (statusFault st || raiseFault) cause.code

end Sys2Proof.Machine
end

