-- ==== Sys2Proof/Syntax.lean ====
section
/-! DEFINITION. The instructions: one constructor per row of the opcode table (`30_encoding.md` R81). The rows fall into
three decode spaces: block modes (`blk[10:0]`), partition and CEM fields (`blk[28:11]`, the rest of the block being
their data) and host commands (`CMD`). Operands are the fields the row leaves free. `d` is the dual-plane flag `D`, `h`
the precision flag `H`, `b` and `a` the grid offsets, `r0` the low bit of `r` (R80); `data` is `blk[127:17]` of a
one-partition block and `blk[127:29]` otherwise, `str4` the first four bits `blk[28:25]` of the string `S` (R77). -/

namespace Sys2Proof

/-- One instruction. -/
inductive Instr where
  /-- `VOID_EXTENT`: the dynamic-range bit, the two ignored bits, the extents and the colour (R72) -/
  | voidExtent (d : Bool) (rsv : BitVec 2) (minS maxS minT maxT : BitVec 13) (cr cg cb ca : BitVec 16)
  /-- `RESERVED_LOW4_ZERO`: a reserved block mode and its free bits (R162) -/
  | reservedLow4Zero (x : BitVec 7)
  /-- `RESERVED_111_01`: a reserved block mode and its free bits (R162) -/
  | reserved111_01 (hi lo : BitVec 2)
  /-- `RESERVED_111_10`: a reserved block mode and its free bits (R162) -/
  | reserved111_10 (hi lo : BitVec 2)
  /-- `RESERVED_111_11_00`: a reserved block mode and its free bits (R162) -/
  | reserved111_11_00 (hi : BitVec 2)
  /-- `RESERVED_111_11_01`: a reserved block mode and its free bits (R162) -/
  | reserved111_11_01 (hi : BitVec 2)
  /-- `RESERVED_111_11_10`: a reserved block mode and its free bits (R162) -/
  | reserved111_11_10 (hi : BitVec 2)
  /-- `MODE_L0_R1`: layout 0 with `r2 r1` = 1 (R74) -/
  | modeL0R1 (d h : Bool) (b a : Nat) (r0 : Bool)
  /-- `MODE_L0_R2`: layout 0 with `r2 r1` = 2 (R74) -/
  | modeL0R2 (d h : Bool) (b a : Nat) (r0 : Bool)
  /-- `MODE_L0_R3`: layout 0 with `r2 r1` = 3 (R74) -/
  | modeL0R3 (d h : Bool) (b a : Nat) (r0 : Bool)
  /-- `MODE_L1_R1`: layout 1 with `r2 r1` = 1 (R74) -/
  | modeL1R1 (d h : Bool) (b a : Nat) (r0 : Bool)
  /-- `MODE_L1_R2`: layout 1 with `r2 r1` = 2 (R74) -/
  | modeL1R2 (d h : Bool) (b a : Nat) (r0 : Bool)
  /-- `MODE_L1_R3`: layout 1 with `r2 r1` = 3 (R74) -/
  | modeL1R3 (d h : Bool) (b a : Nat) (r0 : Bool)
  /-- `MODE_L2_R1`: layout 2 with `r2 r1` = 1 (R74) -/
  | modeL2R1 (d h : Bool) (b a : Nat) (r0 : Bool)
  /-- `MODE_L2_R2`: layout 2 with `r2 r1` = 2 (R74) -/
  | modeL2R2 (d h : Bool) (b a : Nat) (r0 : Bool)
  /-- `MODE_L2_R3`: layout 2 with `r2 r1` = 3 (R74) -/
  | modeL2R3 (d h : Bool) (b a : Nat) (r0 : Bool)
  /-- `MODE_L3_R1`: layout 3 with `r2 r1` = 1 (R74) -/
  | modeL3R1 (d h : Bool) (b a : Nat) (r0 : Bool)
  /-- `MODE_L3_R2`: layout 3 with `r2 r1` = 2 (R74) -/
  | modeL3R2 (d h : Bool) (b a : Nat) (r0 : Bool)
  /-- `MODE_L3_R3`: layout 3 with `r2 r1` = 3 (R74) -/
  | modeL3R3 (d h : Bool) (b a : Nat) (r0 : Bool)
  /-- `MODE_L4_R1`: layout 4 with `r2 r1` = 1 (R74) -/
  | modeL4R1 (d h : Bool) (b a : Nat) (r0 : Bool)
  /-- `MODE_L4_R2`: layout 4 with `r2 r1` = 2 (R74) -/
  | modeL4R2 (d h : Bool) (b a : Nat) (r0 : Bool)
  /-- `MODE_L4_R3`: layout 4 with `r2 r1` = 3 (R74) -/
  | modeL4R3 (d h : Bool) (b a : Nat) (r0 : Bool)
  /-- `MODE_L5_R1`: layout 5 with `r2 r1` = 1 (R74) -/
  | modeL5R1 (d h : Bool) (a : Nat) (r0 : Bool)
  /-- `MODE_L5_R2`: layout 5 with `r2 r1` = 2 (R74) -/
  | modeL5R2 (d h : Bool) (a : Nat) (r0 : Bool)
  /-- `MODE_L5_R3`: layout 5 with `r2 r1` = 3 (R74) -/
  | modeL5R3 (d h : Bool) (a : Nat) (r0 : Bool)
  /-- `MODE_L6_R1`: layout 6 with `r2 r1` = 1 (R74) -/
  | modeL6R1 (d h : Bool) (a : Nat) (r0 : Bool)
  /-- `MODE_L6_R2`: layout 6 with `r2 r1` = 2 (R74) -/
  | modeL6R2 (d h : Bool) (a : Nat) (r0 : Bool)
  /-- `MODE_L6_R3`: layout 6 with `r2 r1` = 3 (R74) -/
  | modeL6R3 (d h : Bool) (a : Nat) (r0 : Bool)
  /-- `MODE_L7_R1`: layout 7 with `r2 r1` = 1 (R74) -/
  | modeL7R1 (d h r0 : Bool)
  /-- `MODE_L7_R2`: layout 7 with `r2 r1` = 2 (R74) -/
  | modeL7R2 (d h r0 : Bool)
  /-- `MODE_L7_R3`: layout 7 with `r2 r1` = 3 (R74) -/
  | modeL7R3 (d h r0 : Bool)
  /-- `MODE_L8_R1`: layout 8 with `r2 r1` = 1 (R74) -/
  | modeL8R1 (d h r0 : Bool)
  /-- `MODE_L8_R2`: layout 8 with `r2 r1` = 2 (R74) -/
  | modeL8R2 (d h r0 : Bool)
  /-- `MODE_L8_R3`: layout 8 with `r2 r1` = 3 (R74) -/
  | modeL8R3 (d h r0 : Bool)
  /-- `MODE_L9_R1`: layout 9 with `r2 r1` = 1 (R74) -/
  | modeL9R1 (b a : Nat) (r0 : Bool)
  /-- `MODE_L9_R2`: layout 9 with `r2 r1` = 2 (R74) -/
  | modeL9R2 (b a : Nat) (r0 : Bool)
  /-- `MODE_L9_R3`: layout 9 with `r2 r1` = 3 (R74) -/
  | modeL9R3 (b a : Nat) (r0 : Bool)
  /-- `CEM0_LDR_LUM_DIRECT`: one partition, CEM 0 (R200) -/
  | cem0LdrLumDirect (data : BitVec 111)
  /-- `CEM1_LDR_LUM_BASE_OFFSET`: one partition, CEM 1 (R201) -/
  | cem1LdrLumBaseOffset (data : BitVec 111)
  /-- `CEM2_HDR_LUM_LARGE`: one partition, CEM 2 (R230) -/
  | cem2HdrLumLarge (data : BitVec 111)
  /-- `CEM3_HDR_LUM_SMALL`: one partition, CEM 3 (R231) -/
  | cem3HdrLumSmall (data : BitVec 111)
  /-- `CEM4_LDR_LUMA_DIRECT`: one partition, CEM 4 (R202) -/
  | cem4LdrLumaDirect (data : BitVec 111)
  /-- `CEM5_LDR_LUMA_BASE_OFFSET`: one partition, CEM 5 (R203) -/
  | cem5LdrLumaBaseOffset (data : BitVec 111)
  /-- `CEM6_LDR_RGB_BASE_SCALE`: one partition, CEM 6 (R204) -/
  | cem6LdrRgbBaseScale (data : BitVec 111)
  /-- `CEM7_HDR_RGB_BASE_SCALE`: one partition, CEM 7 (R232) -/
  | cem7HdrRgbBaseScale (data : BitVec 111)
  /-- `CEM8_LDR_RGB_DIRECT`: one partition, CEM 8 (R205) -/
  | cem8LdrRgbDirect (data : BitVec 111)
  /-- `CEM9_LDR_RGB_BASE_OFFSET`: one partition, CEM 9 (R206) -/
  | cem9LdrRgbBaseOffset (data : BitVec 111)
  /-- `CEM10_LDR_RGB_BASE_SCALE_2A`: one partition, CEM 10 (R207) -/
  | cem10LdrRgbBaseScale2a (data : BitVec 111)
  /-- `CEM11_HDR_RGB_DIRECT`: one partition, CEM 11 (R238) -/
  | cem11HdrRgbDirect (data : BitVec 111)
  /-- `CEM12_LDR_RGBA_DIRECT`: one partition, CEM 12 (R208) -/
  | cem12LdrRgbaDirect (data : BitVec 111)
  /-- `CEM13_LDR_RGBA_BASE_OFFSET`: one partition, CEM 13 (R209) -/
  | cem13LdrRgbaBaseOffset (data : BitVec 111)
  /-- `CEM14_HDR_RGB_LDR_ALPHA`: one partition, CEM 14 (R245) -/
  | cem14HdrRgbLdrAlpha (data : BitVec 111)
  /-- `CEM15_HDR_RGB_HDR_ALPHA`: one partition, CEM 15 (R246) -/
  | cem15HdrRgbHdrAlpha (data : BitVec 111)
  /-- `P2_SHARED_CEM0_LDR_LUM_DIRECT`: 2 partitions sharing CEM 0 (R200) -/
  | p2SharedCem0LdrLumDirect (seed : BitVec 10) (data : BitVec 99)
  /-- `P2_SHARED_CEM1_LDR_LUM_BASE_OFFSET`: 2 partitions sharing CEM 1 (R201) -/
  | p2SharedCem1LdrLumBaseOffset (seed : BitVec 10) (data : BitVec 99)
  /-- `P2_SHARED_CEM2_HDR_LUM_LARGE`: 2 partitions sharing CEM 2 (R230) -/
  | p2SharedCem2HdrLumLarge (seed : BitVec 10) (data : BitVec 99)
  /-- `P2_SHARED_CEM3_HDR_LUM_SMALL`: 2 partitions sharing CEM 3 (R231) -/
  | p2SharedCem3HdrLumSmall (seed : BitVec 10) (data : BitVec 99)
  /-- `P2_SHARED_CEM4_LDR_LUMA_DIRECT`: 2 partitions sharing CEM 4 (R202) -/
  | p2SharedCem4LdrLumaDirect (seed : BitVec 10) (data : BitVec 99)
  /-- `P2_SHARED_CEM5_LDR_LUMA_BASE_OFFSET`: 2 partitions sharing CEM 5 (R203) -/
  | p2SharedCem5LdrLumaBaseOffset (seed : BitVec 10) (data : BitVec 99)
  /-- `P2_SHARED_CEM6_LDR_RGB_BASE_SCALE`: 2 partitions sharing CEM 6 (R204) -/
  | p2SharedCem6LdrRgbBaseScale (seed : BitVec 10) (data : BitVec 99)
  /-- `P2_SHARED_CEM7_HDR_RGB_BASE_SCALE`: 2 partitions sharing CEM 7 (R232) -/
  | p2SharedCem7HdrRgbBaseScale (seed : BitVec 10) (data : BitVec 99)
  /-- `P2_SHARED_CEM8_LDR_RGB_DIRECT`: 2 partitions sharing CEM 8 (R205) -/
  | p2SharedCem8LdrRgbDirect (seed : BitVec 10) (data : BitVec 99)
  /-- `P2_SHARED_CEM9_LDR_RGB_BASE_OFFSET`: 2 partitions sharing CEM 9 (R206) -/
  | p2SharedCem9LdrRgbBaseOffset (seed : BitVec 10) (data : BitVec 99)
  /-- `P2_SHARED_CEM10_LDR_RGB_BASE_SCALE_2A`: 2 partitions sharing CEM 10 (R207) -/
  | p2SharedCem10LdrRgbBaseScale2a (seed : BitVec 10) (data : BitVec 99)
  /-- `P2_SHARED_CEM11_HDR_RGB_DIRECT`: 2 partitions sharing CEM 11 (R238) -/
  | p2SharedCem11HdrRgbDirect (seed : BitVec 10) (data : BitVec 99)
  /-- `P2_SHARED_CEM12_LDR_RGBA_DIRECT`: 2 partitions sharing CEM 12 (R208) -/
  | p2SharedCem12LdrRgbaDirect (seed : BitVec 10) (data : BitVec 99)
  /-- `P2_SHARED_CEM13_LDR_RGBA_BASE_OFFSET`: 2 partitions sharing CEM 13 (R209) -/
  | p2SharedCem13LdrRgbaBaseOffset (seed : BitVec 10) (data : BitVec 99)
  /-- `P2_SHARED_CEM14_HDR_RGB_LDR_ALPHA`: 2 partitions sharing CEM 14 (R245) -/
  | p2SharedCem14HdrRgbLdrAlpha (seed : BitVec 10) (data : BitVec 99)
  /-- `P2_SHARED_CEM15_HDR_RGB_HDR_ALPHA`: 2 partitions sharing CEM 15 (R246) -/
  | p2SharedCem15HdrRgbHdrAlpha (seed : BitVec 10) (data : BitVec 99)
  /-- `P2_INDEP_SEL1`: 2 partitions with independent CEMs, `SEL` = 1 (R194) -/
  | p2IndepSel1 (seed : BitVec 10) (str4 : BitVec 4) (data : BitVec 99)
  /-- `P2_INDEP_SEL2`: 2 partitions with independent CEMs, `SEL` = 2 (R194) -/
  | p2IndepSel2 (seed : BitVec 10) (str4 : BitVec 4) (data : BitVec 99)
  /-- `P2_INDEP_SEL3`: 2 partitions with independent CEMs, `SEL` = 3 (R194) -/
  | p2IndepSel3 (seed : BitVec 10) (str4 : BitVec 4) (data : BitVec 99)
  /-- `P3_SHARED_CEM0_LDR_LUM_DIRECT`: 3 partitions sharing CEM 0 (R200) -/
  | p3SharedCem0LdrLumDirect (seed : BitVec 10) (data : BitVec 99)
  /-- `P3_SHARED_CEM1_LDR_LUM_BASE_OFFSET`: 3 partitions sharing CEM 1 (R201) -/
  | p3SharedCem1LdrLumBaseOffset (seed : BitVec 10) (data : BitVec 99)
  /-- `P3_SHARED_CEM2_HDR_LUM_LARGE`: 3 partitions sharing CEM 2 (R230) -/
  | p3SharedCem2HdrLumLarge (seed : BitVec 10) (data : BitVec 99)
  /-- `P3_SHARED_CEM3_HDR_LUM_SMALL`: 3 partitions sharing CEM 3 (R231) -/
  | p3SharedCem3HdrLumSmall (seed : BitVec 10) (data : BitVec 99)
  /-- `P3_SHARED_CEM4_LDR_LUMA_DIRECT`: 3 partitions sharing CEM 4 (R202) -/
  | p3SharedCem4LdrLumaDirect (seed : BitVec 10) (data : BitVec 99)
  /-- `P3_SHARED_CEM5_LDR_LUMA_BASE_OFFSET`: 3 partitions sharing CEM 5 (R203) -/
  | p3SharedCem5LdrLumaBaseOffset (seed : BitVec 10) (data : BitVec 99)
  /-- `P3_SHARED_CEM6_LDR_RGB_BASE_SCALE`: 3 partitions sharing CEM 6 (R204) -/
  | p3SharedCem6LdrRgbBaseScale (seed : BitVec 10) (data : BitVec 99)
  /-- `P3_SHARED_CEM7_HDR_RGB_BASE_SCALE`: 3 partitions sharing CEM 7 (R232) -/
  | p3SharedCem7HdrRgbBaseScale (seed : BitVec 10) (data : BitVec 99)
  /-- `P3_SHARED_CEM8_LDR_RGB_DIRECT`: 3 partitions sharing CEM 8 (R205) -/
  | p3SharedCem8LdrRgbDirect (seed : BitVec 10) (data : BitVec 99)
  /-- `P3_SHARED_CEM9_LDR_RGB_BASE_OFFSET`: 3 partitions sharing CEM 9 (R206) -/
  | p3SharedCem9LdrRgbBaseOffset (seed : BitVec 10) (data : BitVec 99)
  /-- `P3_SHARED_CEM10_LDR_RGB_BASE_SCALE_2A`: 3 partitions sharing CEM 10 (R207) -/
  | p3SharedCem10LdrRgbBaseScale2a (seed : BitVec 10) (data : BitVec 99)
  /-- `P3_SHARED_CEM11_HDR_RGB_DIRECT`: 3 partitions sharing CEM 11 (R238) -/
  | p3SharedCem11HdrRgbDirect (seed : BitVec 10) (data : BitVec 99)
  /-- `P3_SHARED_CEM12_LDR_RGBA_DIRECT`: 3 partitions sharing CEM 12 (R208) -/
  | p3SharedCem12LdrRgbaDirect (seed : BitVec 10) (data : BitVec 99)
  /-- `P3_SHARED_CEM13_LDR_RGBA_BASE_OFFSET`: 3 partitions sharing CEM 13 (R209) -/
  | p3SharedCem13LdrRgbaBaseOffset (seed : BitVec 10) (data : BitVec 99)
  /-- `P3_SHARED_CEM14_HDR_RGB_LDR_ALPHA`: 3 partitions sharing CEM 14 (R245) -/
  | p3SharedCem14HdrRgbLdrAlpha (seed : BitVec 10) (data : BitVec 99)
  /-- `P3_SHARED_CEM15_HDR_RGB_HDR_ALPHA`: 3 partitions sharing CEM 15 (R246) -/
  | p3SharedCem15HdrRgbHdrAlpha (seed : BitVec 10) (data : BitVec 99)
  /-- `P3_INDEP_SEL1`: 3 partitions with independent CEMs, `SEL` = 1 (R194) -/
  | p3IndepSel1 (seed : BitVec 10) (str4 : BitVec 4) (data : BitVec 99)
  /-- `P3_INDEP_SEL2`: 3 partitions with independent CEMs, `SEL` = 2 (R194) -/
  | p3IndepSel2 (seed : BitVec 10) (str4 : BitVec 4) (data : BitVec 99)
  /-- `P3_INDEP_SEL3`: 3 partitions with independent CEMs, `SEL` = 3 (R194) -/
  | p3IndepSel3 (seed : BitVec 10) (str4 : BitVec 4) (data : BitVec 99)
  /-- `P4_SHARED_CEM0_LDR_LUM_DIRECT`: 4 partitions sharing CEM 0 (R200) -/
  | p4SharedCem0LdrLumDirect (seed : BitVec 10) (data : BitVec 99)
  /-- `P4_SHARED_CEM1_LDR_LUM_BASE_OFFSET`: 4 partitions sharing CEM 1 (R201) -/
  | p4SharedCem1LdrLumBaseOffset (seed : BitVec 10) (data : BitVec 99)
  /-- `P4_SHARED_CEM2_HDR_LUM_LARGE`: 4 partitions sharing CEM 2 (R230) -/
  | p4SharedCem2HdrLumLarge (seed : BitVec 10) (data : BitVec 99)
  /-- `P4_SHARED_CEM3_HDR_LUM_SMALL`: 4 partitions sharing CEM 3 (R231) -/
  | p4SharedCem3HdrLumSmall (seed : BitVec 10) (data : BitVec 99)
  /-- `P4_SHARED_CEM4_LDR_LUMA_DIRECT`: 4 partitions sharing CEM 4 (R202) -/
  | p4SharedCem4LdrLumaDirect (seed : BitVec 10) (data : BitVec 99)
  /-- `P4_SHARED_CEM5_LDR_LUMA_BASE_OFFSET`: 4 partitions sharing CEM 5 (R203) -/
  | p4SharedCem5LdrLumaBaseOffset (seed : BitVec 10) (data : BitVec 99)
  /-- `P4_SHARED_CEM6_LDR_RGB_BASE_SCALE`: 4 partitions sharing CEM 6 (R204) -/
  | p4SharedCem6LdrRgbBaseScale (seed : BitVec 10) (data : BitVec 99)
  /-- `P4_SHARED_CEM7_HDR_RGB_BASE_SCALE`: 4 partitions sharing CEM 7 (R232) -/
  | p4SharedCem7HdrRgbBaseScale (seed : BitVec 10) (data : BitVec 99)
  /-- `P4_SHARED_CEM8_LDR_RGB_DIRECT`: 4 partitions sharing CEM 8 (R205) -/
  | p4SharedCem8LdrRgbDirect (seed : BitVec 10) (data : BitVec 99)
  /-- `P4_SHARED_CEM9_LDR_RGB_BASE_OFFSET`: 4 partitions sharing CEM 9 (R206) -/
  | p4SharedCem9LdrRgbBaseOffset (seed : BitVec 10) (data : BitVec 99)
  /-- `P4_SHARED_CEM10_LDR_RGB_BASE_SCALE_2A`: 4 partitions sharing CEM 10 (R207) -/
  | p4SharedCem10LdrRgbBaseScale2a (seed : BitVec 10) (data : BitVec 99)
  /-- `P4_SHARED_CEM11_HDR_RGB_DIRECT`: 4 partitions sharing CEM 11 (R238) -/
  | p4SharedCem11HdrRgbDirect (seed : BitVec 10) (data : BitVec 99)
  /-- `P4_SHARED_CEM12_LDR_RGBA_DIRECT`: 4 partitions sharing CEM 12 (R208) -/
  | p4SharedCem12LdrRgbaDirect (seed : BitVec 10) (data : BitVec 99)
  /-- `P4_SHARED_CEM13_LDR_RGBA_BASE_OFFSET`: 4 partitions sharing CEM 13 (R209) -/
  | p4SharedCem13LdrRgbaBaseOffset (seed : BitVec 10) (data : BitVec 99)
  /-- `P4_SHARED_CEM14_HDR_RGB_LDR_ALPHA`: 4 partitions sharing CEM 14 (R245) -/
  | p4SharedCem14HdrRgbLdrAlpha (seed : BitVec 10) (data : BitVec 99)
  /-- `P4_SHARED_CEM15_HDR_RGB_HDR_ALPHA`: 4 partitions sharing CEM 15 (R246) -/
  | p4SharedCem15HdrRgbHdrAlpha (seed : BitVec 10) (data : BitVec 99)
  /-- `P4_INDEP_SEL1`: 4 partitions with independent CEMs, `SEL` = 1 (R194) -/
  | p4IndepSel1 (seed : BitVec 10) (str4 : BitVec 4) (data : BitVec 99)
  /-- `P4_INDEP_SEL2`: 4 partitions with independent CEMs, `SEL` = 2 (R194) -/
  | p4IndepSel2 (seed : BitVec 10) (str4 : BitVec 4) (data : BitVec 99)
  /-- `P4_INDEP_SEL3`: 4 partitions with independent CEMs, `SEL` = 3 (R194) -/
  | p4IndepSel3 (seed : BitVec 10) (str4 : BitVec 4) (data : BitVec 99)
  /-- `NOP`: command 0 (R90) -/
  | nop
  /-- `DECODE`: command 1 (R90) -/
  | decode
  /-- `ISVALID`: command 2 (R90) -/
  | isvalid
  /-- `ENC_VOID`: command 3 (R90) -/
  | encVoid
  /-- `ENC_NORMAL`: command 4 (R90) -/
  | encNormal
  /-- `GEN_DEFAULT`: command 5 (R90) -/
  | genDefault
  /-- `RESERVED_6`: command 6 (R90) -/
  | reserved6
  /-- `RESERVED_7`: command 7 (R90) -/
  | reserved7
deriving DecidableEq, Repr

end Sys2Proof
end

