-- ==== Sys2Proof/WellFormed.lean ====
section
/-! DEFINITION. Which instruction terms have an encoding: the grid offsets fit the bits their layout gives them
(`30_encoding.md` R74, R80: `a` has two bits, `b` two, but one in layouts 3 and 4). Every other operand has the width of
its field by its type. -/

namespace Sys2Proof

/-- The instruction's operands fit their fields. -/
def Instr.wellFormed (i : Instr) : Bool :=
  match i with
  | .voidExtent _ _ _ _ _ _ _ _ _ _ => true
  | .reservedLow4Zero _ => true
  | .reserved111_01 _ _ => true
  | .reserved111_10 _ _ => true
  | .reserved111_11_00 _ => true
  | .reserved111_11_01 _ => true
  | .reserved111_11_10 _ => true
  | .modeL0R1 _ _ b a _ => decide (b < 4) && decide (a < 4)
  | .modeL0R2 _ _ b a _ => decide (b < 4) && decide (a < 4)
  | .modeL0R3 _ _ b a _ => decide (b < 4) && decide (a < 4)
  | .modeL1R1 _ _ b a _ => decide (b < 4) && decide (a < 4)
  | .modeL1R2 _ _ b a _ => decide (b < 4) && decide (a < 4)
  | .modeL1R3 _ _ b a _ => decide (b < 4) && decide (a < 4)
  | .modeL2R1 _ _ b a _ => decide (b < 4) && decide (a < 4)
  | .modeL2R2 _ _ b a _ => decide (b < 4) && decide (a < 4)
  | .modeL2R3 _ _ b a _ => decide (b < 4) && decide (a < 4)
  | .modeL3R1 _ _ b a _ => decide (b < 2) && decide (a < 4)
  | .modeL3R2 _ _ b a _ => decide (b < 2) && decide (a < 4)
  | .modeL3R3 _ _ b a _ => decide (b < 2) && decide (a < 4)
  | .modeL4R1 _ _ b a _ => decide (b < 2) && decide (a < 4)
  | .modeL4R2 _ _ b a _ => decide (b < 2) && decide (a < 4)
  | .modeL4R3 _ _ b a _ => decide (b < 2) && decide (a < 4)
  | .modeL5R1 _ _ a _ => decide (a < 4)
  | .modeL5R2 _ _ a _ => decide (a < 4)
  | .modeL5R3 _ _ a _ => decide (a < 4)
  | .modeL6R1 _ _ a _ => decide (a < 4)
  | .modeL6R2 _ _ a _ => decide (a < 4)
  | .modeL6R3 _ _ a _ => decide (a < 4)
  | .modeL7R1 _ _ _ => true
  | .modeL7R2 _ _ _ => true
  | .modeL7R3 _ _ _ => true
  | .modeL8R1 _ _ _ => true
  | .modeL8R2 _ _ _ => true
  | .modeL8R3 _ _ _ => true
  | .modeL9R1 b a _ => decide (b < 4) && decide (a < 4)
  | .modeL9R2 b a _ => decide (b < 4) && decide (a < 4)
  | .modeL9R3 b a _ => decide (b < 4) && decide (a < 4)
  | .cem0LdrLumDirect _ => true
  | .cem1LdrLumBaseOffset _ => true
  | .cem2HdrLumLarge _ => true
  | .cem3HdrLumSmall _ => true
  | .cem4LdrLumaDirect _ => true
  | .cem5LdrLumaBaseOffset _ => true
  | .cem6LdrRgbBaseScale _ => true
  | .cem7HdrRgbBaseScale _ => true
  | .cem8LdrRgbDirect _ => true
  | .cem9LdrRgbBaseOffset _ => true
  | .cem10LdrRgbBaseScale2a _ => true
  | .cem11HdrRgbDirect _ => true
  | .cem12LdrRgbaDirect _ => true
  | .cem13LdrRgbaBaseOffset _ => true
  | .cem14HdrRgbLdrAlpha _ => true
  | .cem15HdrRgbHdrAlpha _ => true
  | .p2SharedCem0LdrLumDirect _ _ => true
  | .p2SharedCem1LdrLumBaseOffset _ _ => true
  | .p2SharedCem2HdrLumLarge _ _ => true
  | .p2SharedCem3HdrLumSmall _ _ => true
  | .p2SharedCem4LdrLumaDirect _ _ => true
  | .p2SharedCem5LdrLumaBaseOffset _ _ => true
  | .p2SharedCem6LdrRgbBaseScale _ _ => true
  | .p2SharedCem7HdrRgbBaseScale _ _ => true
  | .p2SharedCem8LdrRgbDirect _ _ => true
  | .p2SharedCem9LdrRgbBaseOffset _ _ => true
  | .p2SharedCem10LdrRgbBaseScale2a _ _ => true
  | .p2SharedCem11HdrRgbDirect _ _ => true
  | .p2SharedCem12LdrRgbaDirect _ _ => true
  | .p2SharedCem13LdrRgbaBaseOffset _ _ => true
  | .p2SharedCem14HdrRgbLdrAlpha _ _ => true
  | .p2SharedCem15HdrRgbHdrAlpha _ _ => true
  | .p2IndepSel1 _ _ _ => true
  | .p2IndepSel2 _ _ _ => true
  | .p2IndepSel3 _ _ _ => true
  | .p3SharedCem0LdrLumDirect _ _ => true
  | .p3SharedCem1LdrLumBaseOffset _ _ => true
  | .p3SharedCem2HdrLumLarge _ _ => true
  | .p3SharedCem3HdrLumSmall _ _ => true
  | .p3SharedCem4LdrLumaDirect _ _ => true
  | .p3SharedCem5LdrLumaBaseOffset _ _ => true
  | .p3SharedCem6LdrRgbBaseScale _ _ => true
  | .p3SharedCem7HdrRgbBaseScale _ _ => true
  | .p3SharedCem8LdrRgbDirect _ _ => true
  | .p3SharedCem9LdrRgbBaseOffset _ _ => true
  | .p3SharedCem10LdrRgbBaseScale2a _ _ => true
  | .p3SharedCem11HdrRgbDirect _ _ => true
  | .p3SharedCem12LdrRgbaDirect _ _ => true
  | .p3SharedCem13LdrRgbaBaseOffset _ _ => true
  | .p3SharedCem14HdrRgbLdrAlpha _ _ => true
  | .p3SharedCem15HdrRgbHdrAlpha _ _ => true
  | .p3IndepSel1 _ _ _ => true
  | .p3IndepSel2 _ _ _ => true
  | .p3IndepSel3 _ _ _ => true
  | .p4SharedCem0LdrLumDirect _ _ => true
  | .p4SharedCem1LdrLumBaseOffset _ _ => true
  | .p4SharedCem2HdrLumLarge _ _ => true
  | .p4SharedCem3HdrLumSmall _ _ => true
  | .p4SharedCem4LdrLumaDirect _ _ => true
  | .p4SharedCem5LdrLumaBaseOffset _ _ => true
  | .p4SharedCem6LdrRgbBaseScale _ _ => true
  | .p4SharedCem7HdrRgbBaseScale _ _ => true
  | .p4SharedCem8LdrRgbDirect _ _ => true
  | .p4SharedCem9LdrRgbBaseOffset _ _ => true
  | .p4SharedCem10LdrRgbBaseScale2a _ _ => true
  | .p4SharedCem11HdrRgbDirect _ _ => true
  | .p4SharedCem12LdrRgbaDirect _ _ => true
  | .p4SharedCem13LdrRgbaBaseOffset _ _ => true
  | .p4SharedCem14HdrRgbLdrAlpha _ _ => true
  | .p4SharedCem15HdrRgbHdrAlpha _ _ => true
  | .p4IndepSel1 _ _ _ => true
  | .p4IndepSel2 _ _ _ => true
  | .p4IndepSel3 _ _ _ => true
  | .nop => true
  | .decode => true
  | .isvalid => true
  | .encVoid => true
  | .encNormal => true
  | .genDefault => true
  | .reserved6 => true
  | .reserved7 => true

end Sys2Proof
end

