-- ==== Sys2Proof/Decode.lean ====
section
/-! DEFINITION. The decoder and the encoder, from the encoding tables of `30_encoding.md` R71 to R77 and R90. A block is
decoded in two parts, its block mode and then (for a normal block) its partition and CEM fields; `CMD` is decoded by
itself. -/

namespace Sys2Proof

/-- The decode spaces of R81: group (d), group (a), groups (b) and (c). -/
inductive Space where
  | command
  | blockMode
  | endpoint
deriving DecidableEq, Repr

/-- Why bytes are no instruction. -/
inductive DecodeError where
  /-- not one byte for a command, not sixteen for a block (`30_encoding.md` R70) -/
  | wrongLength
  /-- a byte above 7 in the 3-bit command space (`10_state.md` R22) -/
  | noSuchCommand
deriving DecidableEq, Repr

/-- Bits `hi..lo` of a number (`00_scope.md` R11). -/
def bitsOf (w hi lo : Nat) : Nat := w / 2 ^ lo % 2 ^ (hi - lo + 1)

/-- Bit `i` of a number as a flag. -/
def bitAt (w i : Nat) : Bool := w / 2 ^ i % 2 == 1

/-- Bytes to a block, byte 0 least significant (`20_memory.md` R52). -/
def blockOfBytes (bs : List Byte) : Block :=
  BitVec.ofNat 128 (bs.foldr (fun b acc => b.toNat + 256 * acc) 0)

/-- Byte `k` of a block (`20_memory.md` R53). -/
def blockByte (blk : Block) (k : Nat) : Byte := BitVec.ofNat 8 (blk.toNat / 2 ^ (8 * k))

/-- The sixteen bytes of a block, byte 0 first (`20_memory.md` R53). -/
def bytesOfBlock (blk : Block) : List Byte := (List.range 16).map (blockByte blk)

/-- The instruction of a command code (R90). -/
def decodeCommand (c : BitVec 3) : Instr :=
  match c.toNat with
  | 0 => .nop
  | 1 => .decode
  | 2 => .isvalid
  | 3 => .encVoid
  | 4 => .encNormal
  | 5 => .genDefault
  | 6 => .reserved6
  | _ => .reserved7

/-- The void-extent fields of a block (R72). -/
def decodeVoidExtent (w : Nat) : Instr :=
  .voidExtent (bitAt w 9) (BitVec.ofNat 2 (bitsOf w 11 10)) (BitVec.ofNat 13 (bitsOf w 24 12))
    (BitVec.ofNat 13 (bitsOf w 37 25)) (BitVec.ofNat 13 (bitsOf w 50 38)) (BitVec.ofNat 13 (bitsOf w 63 51))
    (BitVec.ofNat 16 (bitsOf w 79 64)) (BitVec.ofNat 16 (bitsOf w 95 80)) (BitVec.ofNat 16 (bitsOf w 111 96))
    (BitVec.ofNat 16 (bitsOf w 127 112))

/-- Layout 0 by its `r2 r1` bits (R74). -/
def decodeLayout0 (q : Nat) (d h : Bool) (b a : Nat) (r0 : Bool) : Instr :=
  match q with
  | 1 => .modeL0R1 d h b a r0
  | 2 => .modeL0R2 d h b a r0
  | _ => .modeL0R3 d h b a r0

/-- Layout 1 by its `r2 r1` bits (R74). -/
def decodeLayout1 (q : Nat) (d h : Bool) (b a : Nat) (r0 : Bool) : Instr :=
  match q with
  | 1 => .modeL1R1 d h b a r0
  | 2 => .modeL1R2 d h b a r0
  | _ => .modeL1R3 d h b a r0

/-- Layout 2 by its `r2 r1` bits (R74). -/
def decodeLayout2 (q : Nat) (d h : Bool) (b a : Nat) (r0 : Bool) : Instr :=
  match q with
  | 1 => .modeL2R1 d h b a r0
  | 2 => .modeL2R2 d h b a r0
  | _ => .modeL2R3 d h b a r0

/-- Layout 3 by its `r2 r1` bits (R74). -/
def decodeLayout3 (q : Nat) (d h : Bool) (b a : Nat) (r0 : Bool) : Instr :=
  match q with
  | 1 => .modeL3R1 d h b a r0
  | 2 => .modeL3R2 d h b a r0
  | _ => .modeL3R3 d h b a r0

/-- Layout 4 by its `r2 r1` bits (R74). -/
def decodeLayout4 (q : Nat) (d h : Bool) (b a : Nat) (r0 : Bool) : Instr :=
  match q with
  | 1 => .modeL4R1 d h b a r0
  | 2 => .modeL4R2 d h b a r0
  | _ => .modeL4R3 d h b a r0

/-- Layout 5 by its `r2 r1` bits (R74). -/
def decodeLayout5 (q : Nat) (d h : Bool) (a : Nat) (r0 : Bool) : Instr :=
  match q with
  | 1 => .modeL5R1 d h a r0
  | 2 => .modeL5R2 d h a r0
  | _ => .modeL5R3 d h a r0

/-- Layout 6 by its `r2 r1` bits (R74). -/
def decodeLayout6 (q : Nat) (d h : Bool) (a : Nat) (r0 : Bool) : Instr :=
  match q with
  | 1 => .modeL6R1 d h a r0
  | 2 => .modeL6R2 d h a r0
  | _ => .modeL6R3 d h a r0

/-- Layout 7 by its `r2 r1` bits (R74). -/
def decodeLayout7 (q : Nat) (d h r0 : Bool) : Instr :=
  match q with
  | 1 => .modeL7R1 d h r0
  | 2 => .modeL7R2 d h r0
  | _ => .modeL7R3 d h r0

/-- Layout 8 by its `r2 r1` bits (R74). -/
def decodeLayout8 (q : Nat) (d h r0 : Bool) : Instr :=
  match q with
  | 1 => .modeL8R1 d h r0
  | 2 => .modeL8R2 d h r0
  | _ => .modeL8R3 d h r0

/-- Layout 9 by its `r2 r1` bits (R74). -/
def decodeLayout9 (q : Nat) (b a : Nat) (r0 : Bool) : Instr :=
  match q with
  | 1 => .modeL9R1 b a r0
  | 2 => .modeL9R2 b a r0
  | _ => .modeL9R3 b a r0

/-- The reserved modes with bits 8:6 = 111 and bits 1:0 = 00, by bits 5:2 (R71, R162). -/
def decodeReserved111 (m : Nat) : Instr :=
  let hi := BitVec.ofNat 2 (bitsOf m 10 9)
  let lo := BitVec.ofNat 2 (bitsOf m 5 4)
  match bitsOf m 3 2 with
  | 1 => .reserved111_01 hi lo
  | 2 => .reserved111_10 hi lo
  | _ =>
    match bitsOf m 5 4 with
    | 0 => .reserved111_11_00 hi
    | 1 => .reserved111_11_01 hi
    | _ => .reserved111_11_10 hi

/-- A block mode with bits 1:0 not 00: layouts 0 to 4 (R74, R163). -/
def decodeModeLow (m : Nat) : Instr :=
  let d := bitAt m 10
  let h := bitAt m 9
  let a := bitsOf m 6 5
  let r0 := bitAt m 4
  let q := bitsOf m 1 0
  match bitsOf m 3 2 with
  | 0 => decodeLayout0 q d h (bitsOf m 8 7) a r0
  | 1 => decodeLayout1 q d h (bitsOf m 8 7) a r0
  | 2 => decodeLayout2 q d h (bitsOf m 8 7) a r0
  | _ =>
    if bitAt m 8 then decodeLayout4 q d h (bitsOf m 7 7) a r0
    else decodeLayout3 q d h (bitsOf m 7 7) a r0

/-- A block mode with bits 1:0 = 00 that is neither void-extent nor reserved: layouts 5 to 9 (R74, R164). -/
def decodeModeHigh (m : Nat) : Instr :=
  let d := bitAt m 10
  let h := bitAt m 9
  let a := bitsOf m 6 5
  let r0 := bitAt m 4
  let q := bitsOf m 3 2
  match bitsOf m 8 7 with
  | 0 => decodeLayout5 q d h a r0
  | 1 => decodeLayout6 q d h a r0
  | 2 => decodeLayout9 q (bitsOf m 10 9) a r0
  | _ => if bitAt m 5 then decodeLayout8 q d h r0 else decodeLayout7 q d h r0

/-- A block mode other than the void-extent sentinel (R71 cases 2 and 3). -/
def decodeModeRow (m : Nat) : Instr :=
  if bitsOf m 3 0 = 0 then .reservedLow4Zero (BitVec.ofNat 7 (bitsOf m 10 4))
  else if bitsOf m 1 0 = 0 ∧ bitsOf m 8 6 = 7 then decodeReserved111 m
  else if bitsOf m 1 0 ≠ 0 then decodeModeLow m
  else decodeModeHigh m

/-- The block-mode instruction of a block (R71): the sentinel is tested first. -/
def decodeBlockMode (blk : Block) : Instr :=
  if bitsOf blk.toNat 8 0 = 0x1FC then decodeVoidExtent blk.toNat
  else decodeModeRow (bitsOf blk.toNat 10 0)

/-- The one-partition rows by CEM (R73, R76). -/
def decodeCemSingle (cem : Nat) (data : BitVec 111) : Instr :=
  match cem with
  | 0 => .cem0LdrLumDirect data
  | 1 => .cem1LdrLumBaseOffset data
  | 2 => .cem2HdrLumLarge data
  | 3 => .cem3HdrLumSmall data
  | 4 => .cem4LdrLumaDirect data
  | 5 => .cem5LdrLumaBaseOffset data
  | 6 => .cem6LdrRgbBaseScale data
  | 7 => .cem7HdrRgbBaseScale data
  | 8 => .cem8LdrRgbDirect data
  | 9 => .cem9LdrRgbBaseOffset data
  | 10 => .cem10LdrRgbBaseScale2a data
  | 11 => .cem11HdrRgbDirect data
  | 12 => .cem12LdrRgbaDirect data
  | 13 => .cem13LdrRgbaBaseOffset data
  | 14 => .cem14HdrRgbLdrAlpha data
  | _ => .cem15HdrRgbHdrAlpha data

/-- The rows of 2 partitions sharing a CEM (R77). -/
def decodeCemShared2 (cem : Nat) (seed : BitVec 10) (data : BitVec 99) : Instr :=
  match cem with
  | 0 => .p2SharedCem0LdrLumDirect seed data
  | 1 => .p2SharedCem1LdrLumBaseOffset seed data
  | 2 => .p2SharedCem2HdrLumLarge seed data
  | 3 => .p2SharedCem3HdrLumSmall seed data
  | 4 => .p2SharedCem4LdrLumaDirect seed data
  | 5 => .p2SharedCem5LdrLumaBaseOffset seed data
  | 6 => .p2SharedCem6LdrRgbBaseScale seed data
  | 7 => .p2SharedCem7HdrRgbBaseScale seed data
  | 8 => .p2SharedCem8LdrRgbDirect seed data
  | 9 => .p2SharedCem9LdrRgbBaseOffset seed data
  | 10 => .p2SharedCem10LdrRgbBaseScale2a seed data
  | 11 => .p2SharedCem11HdrRgbDirect seed data
  | 12 => .p2SharedCem12LdrRgbaDirect seed data
  | 13 => .p2SharedCem13LdrRgbaBaseOffset seed data
  | 14 => .p2SharedCem14HdrRgbLdrAlpha seed data
  | _ => .p2SharedCem15HdrRgbHdrAlpha seed data

/-- The rows of 3 partitions sharing a CEM (R77). -/
def decodeCemShared3 (cem : Nat) (seed : BitVec 10) (data : BitVec 99) : Instr :=
  match cem with
  | 0 => .p3SharedCem0LdrLumDirect seed data
  | 1 => .p3SharedCem1LdrLumBaseOffset seed data
  | 2 => .p3SharedCem2HdrLumLarge seed data
  | 3 => .p3SharedCem3HdrLumSmall seed data
  | 4 => .p3SharedCem4LdrLumaDirect seed data
  | 5 => .p3SharedCem5LdrLumaBaseOffset seed data
  | 6 => .p3SharedCem6LdrRgbBaseScale seed data
  | 7 => .p3SharedCem7HdrRgbBaseScale seed data
  | 8 => .p3SharedCem8LdrRgbDirect seed data
  | 9 => .p3SharedCem9LdrRgbBaseOffset seed data
  | 10 => .p3SharedCem10LdrRgbBaseScale2a seed data
  | 11 => .p3SharedCem11HdrRgbDirect seed data
  | 12 => .p3SharedCem12LdrRgbaDirect seed data
  | 13 => .p3SharedCem13LdrRgbaBaseOffset seed data
  | 14 => .p3SharedCem14HdrRgbLdrAlpha seed data
  | _ => .p3SharedCem15HdrRgbHdrAlpha seed data

/-- The rows of 4 partitions sharing a CEM (R77). -/
def decodeCemShared4 (cem : Nat) (seed : BitVec 10) (data : BitVec 99) : Instr :=
  match cem with
  | 0 => .p4SharedCem0LdrLumDirect seed data
  | 1 => .p4SharedCem1LdrLumBaseOffset seed data
  | 2 => .p4SharedCem2HdrLumLarge seed data
  | 3 => .p4SharedCem3HdrLumSmall seed data
  | 4 => .p4SharedCem4LdrLumaDirect seed data
  | 5 => .p4SharedCem5LdrLumaBaseOffset seed data
  | 6 => .p4SharedCem6LdrRgbBaseScale seed data
  | 7 => .p4SharedCem7HdrRgbBaseScale seed data
  | 8 => .p4SharedCem8LdrRgbDirect seed data
  | 9 => .p4SharedCem9LdrRgbBaseOffset seed data
  | 10 => .p4SharedCem10LdrRgbBaseScale2a seed data
  | 11 => .p4SharedCem11HdrRgbDirect seed data
  | 12 => .p4SharedCem12LdrRgbaDirect seed data
  | 13 => .p4SharedCem13LdrRgbaBaseOffset seed data
  | 14 => .p4SharedCem14HdrRgbLdrAlpha seed data
  | _ => .p4SharedCem15HdrRgbHdrAlpha seed data

/-- The rows of 2 partitions with independent CEMs by `SEL` (R77). -/
def decodeCemIndep2 (sel : Nat) (seed : BitVec 10) (str4 : BitVec 4) (data : BitVec 99) : Instr :=
  match sel with
  | 1 => .p2IndepSel1 seed str4 data
  | 2 => .p2IndepSel2 seed str4 data
  | _ => .p2IndepSel3 seed str4 data

/-- The rows of 3 partitions with independent CEMs by `SEL` (R77). -/
def decodeCemIndep3 (sel : Nat) (seed : BitVec 10) (str4 : BitVec 4) (data : BitVec 99) : Instr :=
  match sel with
  | 1 => .p3IndepSel1 seed str4 data
  | 2 => .p3IndepSel2 seed str4 data
  | _ => .p3IndepSel3 seed str4 data

/-- The rows of 4 partitions with independent CEMs by `SEL` (R77). -/
def decodeCemIndep4 (sel : Nat) (seed : BitVec 10) (str4 : BitVec 4) (data : BitVec 99) : Instr :=
  match sel with
  | 1 => .p4IndepSel1 seed str4 data
  | 2 => .p4IndepSel2 seed str4 data
  | _ => .p4IndepSel3 seed str4 data

/-- The partition and CEM instruction of a block (R73, R75, R77): `P` = `blk[12:11]`, then the CEM of a one-partition
block, or `SEL` = `blk[24:23]` and the shared CEM or the string bits `blk[28:25]`. -/
def decodeEndpoint (blk : Block) : Instr :=
  let w := blk.toNat
  let seed := BitVec.ofNat 10 (bitsOf w 22 13)
  let sel := bitsOf w 24 23
  let cem := bitsOf w 28 25
  let str4 := BitVec.ofNat 4 (bitsOf w 28 25)
  let data := BitVec.ofNat 99 (bitsOf w 127 29)
  match bitsOf w 12 11 with
  | 0 => decodeCemSingle (bitsOf w 16 13) (BitVec.ofNat 111 (bitsOf w 127 17))
  | 1 => if sel = 0 then decodeCemShared2 cem seed data else decodeCemIndep2 sel seed str4 data
  | 2 => if sel = 0 then decodeCemShared3 cem seed data else decodeCemIndep3 sel seed str4 data
  | _ => if sel = 0 then decodeCemShared4 cem seed data else decodeCemIndep4 sel seed str4 data

/-- The decoder: total on any bytes, rejecting by name what is no instruction of the space. -/
def decode (sp : Space) (bytes : List Byte) : Except DecodeError Instr :=
  match sp with
  | .command =>
    match bytes with
    | [b] => if b.toNat < 8 then .ok (decodeCommand (BitVec.ofNat 3 b.toNat)) else .error .noSuchCommand
    | _ => .error .wrongLength
  | .blockMode => if bytes.length = 16 then .ok (decodeBlockMode (blockOfBytes bytes)) else .error .wrongLength
  | .endpoint => if bytes.length = 16 then .ok (decodeEndpoint (blockOfBytes bytes)) else .error .wrongLength

/-- The decode space of an instruction. -/
def Instr.space (i : Instr) : Space :=
  match i with
  | .voidExtent _ _ _ _ _ _ _ _ _ _ => .blockMode
  | .reservedLow4Zero _ => .blockMode
  | .reserved111_01 _ _ => .blockMode
  | .reserved111_10 _ _ => .blockMode
  | .reserved111_11_00 _ => .blockMode
  | .reserved111_11_01 _ => .blockMode
  | .reserved111_11_10 _ => .blockMode
  | .modeL0R1 _ _ _ _ _ => .blockMode
  | .modeL0R2 _ _ _ _ _ => .blockMode
  | .modeL0R3 _ _ _ _ _ => .blockMode
  | .modeL1R1 _ _ _ _ _ => .blockMode
  | .modeL1R2 _ _ _ _ _ => .blockMode
  | .modeL1R3 _ _ _ _ _ => .blockMode
  | .modeL2R1 _ _ _ _ _ => .blockMode
  | .modeL2R2 _ _ _ _ _ => .blockMode
  | .modeL2R3 _ _ _ _ _ => .blockMode
  | .modeL3R1 _ _ _ _ _ => .blockMode
  | .modeL3R2 _ _ _ _ _ => .blockMode
  | .modeL3R3 _ _ _ _ _ => .blockMode
  | .modeL4R1 _ _ _ _ _ => .blockMode
  | .modeL4R2 _ _ _ _ _ => .blockMode
  | .modeL4R3 _ _ _ _ _ => .blockMode
  | .modeL5R1 _ _ _ _ => .blockMode
  | .modeL5R2 _ _ _ _ => .blockMode
  | .modeL5R3 _ _ _ _ => .blockMode
  | .modeL6R1 _ _ _ _ => .blockMode
  | .modeL6R2 _ _ _ _ => .blockMode
  | .modeL6R3 _ _ _ _ => .blockMode
  | .modeL7R1 _ _ _ => .blockMode
  | .modeL7R2 _ _ _ => .blockMode
  | .modeL7R3 _ _ _ => .blockMode
  | .modeL8R1 _ _ _ => .blockMode
  | .modeL8R2 _ _ _ => .blockMode
  | .modeL8R3 _ _ _ => .blockMode
  | .modeL9R1 _ _ _ => .blockMode
  | .modeL9R2 _ _ _ => .blockMode
  | .modeL9R3 _ _ _ => .blockMode
  | .cem0LdrLumDirect _ => .endpoint
  | .cem1LdrLumBaseOffset _ => .endpoint
  | .cem2HdrLumLarge _ => .endpoint
  | .cem3HdrLumSmall _ => .endpoint
  | .cem4LdrLumaDirect _ => .endpoint
  | .cem5LdrLumaBaseOffset _ => .endpoint
  | .cem6LdrRgbBaseScale _ => .endpoint
  | .cem7HdrRgbBaseScale _ => .endpoint
  | .cem8LdrRgbDirect _ => .endpoint
  | .cem9LdrRgbBaseOffset _ => .endpoint
  | .cem10LdrRgbBaseScale2a _ => .endpoint
  | .cem11HdrRgbDirect _ => .endpoint
  | .cem12LdrRgbaDirect _ => .endpoint
  | .cem13LdrRgbaBaseOffset _ => .endpoint
  | .cem14HdrRgbLdrAlpha _ => .endpoint
  | .cem15HdrRgbHdrAlpha _ => .endpoint
  | .p2SharedCem0LdrLumDirect _ _ => .endpoint
  | .p2SharedCem1LdrLumBaseOffset _ _ => .endpoint
  | .p2SharedCem2HdrLumLarge _ _ => .endpoint
  | .p2SharedCem3HdrLumSmall _ _ => .endpoint
  | .p2SharedCem4LdrLumaDirect _ _ => .endpoint
  | .p2SharedCem5LdrLumaBaseOffset _ _ => .endpoint
  | .p2SharedCem6LdrRgbBaseScale _ _ => .endpoint
  | .p2SharedCem7HdrRgbBaseScale _ _ => .endpoint
  | .p2SharedCem8LdrRgbDirect _ _ => .endpoint
  | .p2SharedCem9LdrRgbBaseOffset _ _ => .endpoint
  | .p2SharedCem10LdrRgbBaseScale2a _ _ => .endpoint
  | .p2SharedCem11HdrRgbDirect _ _ => .endpoint
  | .p2SharedCem12LdrRgbaDirect _ _ => .endpoint
  | .p2SharedCem13LdrRgbaBaseOffset _ _ => .endpoint
  | .p2SharedCem14HdrRgbLdrAlpha _ _ => .endpoint
  | .p2SharedCem15HdrRgbHdrAlpha _ _ => .endpoint
  | .p2IndepSel1 _ _ _ => .endpoint
  | .p2IndepSel2 _ _ _ => .endpoint
  | .p2IndepSel3 _ _ _ => .endpoint
  | .p3SharedCem0LdrLumDirect _ _ => .endpoint
  | .p3SharedCem1LdrLumBaseOffset _ _ => .endpoint
  | .p3SharedCem2HdrLumLarge _ _ => .endpoint
  | .p3SharedCem3HdrLumSmall _ _ => .endpoint
  | .p3SharedCem4LdrLumaDirect _ _ => .endpoint
  | .p3SharedCem5LdrLumaBaseOffset _ _ => .endpoint
  | .p3SharedCem6LdrRgbBaseScale _ _ => .endpoint
  | .p3SharedCem7HdrRgbBaseScale _ _ => .endpoint
  | .p3SharedCem8LdrRgbDirect _ _ => .endpoint
  | .p3SharedCem9LdrRgbBaseOffset _ _ => .endpoint
  | .p3SharedCem10LdrRgbBaseScale2a _ _ => .endpoint
  | .p3SharedCem11HdrRgbDirect _ _ => .endpoint
  | .p3SharedCem12LdrRgbaDirect _ _ => .endpoint
  | .p3SharedCem13LdrRgbaBaseOffset _ _ => .endpoint
  | .p3SharedCem14HdrRgbLdrAlpha _ _ => .endpoint
  | .p3SharedCem15HdrRgbHdrAlpha _ _ => .endpoint
  | .p3IndepSel1 _ _ _ => .endpoint
  | .p3IndepSel2 _ _ _ => .endpoint
  | .p3IndepSel3 _ _ _ => .endpoint
  | .p4SharedCem0LdrLumDirect _ _ => .endpoint
  | .p4SharedCem1LdrLumBaseOffset _ _ => .endpoint
  | .p4SharedCem2HdrLumLarge _ _ => .endpoint
  | .p4SharedCem3HdrLumSmall _ _ => .endpoint
  | .p4SharedCem4LdrLumaDirect _ _ => .endpoint
  | .p4SharedCem5LdrLumaBaseOffset _ _ => .endpoint
  | .p4SharedCem6LdrRgbBaseScale _ _ => .endpoint
  | .p4SharedCem7HdrRgbBaseScale _ _ => .endpoint
  | .p4SharedCem8LdrRgbDirect _ _ => .endpoint
  | .p4SharedCem9LdrRgbBaseOffset _ _ => .endpoint
  | .p4SharedCem10LdrRgbBaseScale2a _ _ => .endpoint
  | .p4SharedCem11HdrRgbDirect _ _ => .endpoint
  | .p4SharedCem12LdrRgbaDirect _ _ => .endpoint
  | .p4SharedCem13LdrRgbaBaseOffset _ _ => .endpoint
  | .p4SharedCem14HdrRgbLdrAlpha _ _ => .endpoint
  | .p4SharedCem15HdrRgbHdrAlpha _ _ => .endpoint
  | .p4IndepSel1 _ _ _ => .endpoint
  | .p4IndepSel2 _ _ _ => .endpoint
  | .p4IndepSel3 _ _ _ => .endpoint
  | .nop => .command
  | .decode => .command
  | .isvalid => .command
  | .encVoid => .command
  | .encNormal => .command
  | .genDefault => .command
  | .reserved6 => .command
  | .reserved7 => .command

/-- The row's `mask` and `match` (R81): a block or command matches the row when its bits under the mask are the match. -/
def Instr.row (i : Instr) : Nat × Nat :=
  match i with
  | .voidExtent _ _ _ _ _ _ _ _ _ _ => (0x1FF, 0x1FC)
  | .reservedLow4Zero _ => (0xF, 0x0)
  | .reserved111_01 _ _ => (0x1CF, 0x1C4)
  | .reserved111_10 _ _ => (0x1CF, 0x1C8)
  | .reserved111_11_00 _ => (0x1FF, 0x1CC)
  | .reserved111_11_01 _ => (0x1FF, 0x1DC)
  | .reserved111_11_10 _ => (0x1FF, 0x1EC)
  | .modeL0R1 _ _ _ _ _ => (0xF, 0x1)
  | .modeL0R2 _ _ _ _ _ => (0xF, 0x2)
  | .modeL0R3 _ _ _ _ _ => (0xF, 0x3)
  | .modeL1R1 _ _ _ _ _ => (0xF, 0x5)
  | .modeL1R2 _ _ _ _ _ => (0xF, 0x6)
  | .modeL1R3 _ _ _ _ _ => (0xF, 0x7)
  | .modeL2R1 _ _ _ _ _ => (0xF, 0x9)
  | .modeL2R2 _ _ _ _ _ => (0xF, 0xA)
  | .modeL2R3 _ _ _ _ _ => (0xF, 0xB)
  | .modeL3R1 _ _ _ _ _ => (0x10F, 0xD)
  | .modeL3R2 _ _ _ _ _ => (0x10F, 0xE)
  | .modeL3R3 _ _ _ _ _ => (0x10F, 0xF)
  | .modeL4R1 _ _ _ _ _ => (0x10F, 0x10D)
  | .modeL4R2 _ _ _ _ _ => (0x10F, 0x10E)
  | .modeL4R3 _ _ _ _ _ => (0x10F, 0x10F)
  | .modeL5R1 _ _ _ _ => (0x18F, 0x4)
  | .modeL5R2 _ _ _ _ => (0x18F, 0x8)
  | .modeL5R3 _ _ _ _ => (0x18F, 0xC)
  | .modeL6R1 _ _ _ _ => (0x18F, 0x84)
  | .modeL6R2 _ _ _ _ => (0x18F, 0x88)
  | .modeL6R3 _ _ _ _ => (0x18F, 0x8C)
  | .modeL7R1 _ _ _ => (0x1EF, 0x184)
  | .modeL7R2 _ _ _ => (0x1EF, 0x188)
  | .modeL7R3 _ _ _ => (0x1EF, 0x18C)
  | .modeL8R1 _ _ _ => (0x1EF, 0x1A4)
  | .modeL8R2 _ _ _ => (0x1EF, 0x1A8)
  | .modeL8R3 _ _ _ => (0x1EF, 0x1AC)
  | .modeL9R1 _ _ _ => (0x18F, 0x104)
  | .modeL9R2 _ _ _ => (0x18F, 0x108)
  | .modeL9R3 _ _ _ => (0x18F, 0x10C)
  | .cem0LdrLumDirect _ => (0x1F800, 0x0)
  | .cem1LdrLumBaseOffset _ => (0x1F800, 0x2000)
  | .cem2HdrLumLarge _ => (0x1F800, 0x4000)
  | .cem3HdrLumSmall _ => (0x1F800, 0x6000)
  | .cem4LdrLumaDirect _ => (0x1F800, 0x8000)
  | .cem5LdrLumaBaseOffset _ => (0x1F800, 0xA000)
  | .cem6LdrRgbBaseScale _ => (0x1F800, 0xC000)
  | .cem7HdrRgbBaseScale _ => (0x1F800, 0xE000)
  | .cem8LdrRgbDirect _ => (0x1F800, 0x10000)
  | .cem9LdrRgbBaseOffset _ => (0x1F800, 0x12000)
  | .cem10LdrRgbBaseScale2a _ => (0x1F800, 0x14000)
  | .cem11HdrRgbDirect _ => (0x1F800, 0x16000)
  | .cem12LdrRgbaDirect _ => (0x1F800, 0x18000)
  | .cem13LdrRgbaBaseOffset _ => (0x1F800, 0x1A000)
  | .cem14HdrRgbLdrAlpha _ => (0x1F800, 0x1C000)
  | .cem15HdrRgbHdrAlpha _ => (0x1F800, 0x1E000)
  | .p2SharedCem0LdrLumDirect _ _ => (0x1F801800, 0x800)
  | .p2SharedCem1LdrLumBaseOffset _ _ => (0x1F801800, 0x2000800)
  | .p2SharedCem2HdrLumLarge _ _ => (0x1F801800, 0x4000800)
  | .p2SharedCem3HdrLumSmall _ _ => (0x1F801800, 0x6000800)
  | .p2SharedCem4LdrLumaDirect _ _ => (0x1F801800, 0x8000800)
  | .p2SharedCem5LdrLumaBaseOffset _ _ => (0x1F801800, 0xA000800)
  | .p2SharedCem6LdrRgbBaseScale _ _ => (0x1F801800, 0xC000800)
  | .p2SharedCem7HdrRgbBaseScale _ _ => (0x1F801800, 0xE000800)
  | .p2SharedCem8LdrRgbDirect _ _ => (0x1F801800, 0x10000800)
  | .p2SharedCem9LdrRgbBaseOffset _ _ => (0x1F801800, 0x12000800)
  | .p2SharedCem10LdrRgbBaseScale2a _ _ => (0x1F801800, 0x14000800)
  | .p2SharedCem11HdrRgbDirect _ _ => (0x1F801800, 0x16000800)
  | .p2SharedCem12LdrRgbaDirect _ _ => (0x1F801800, 0x18000800)
  | .p2SharedCem13LdrRgbaBaseOffset _ _ => (0x1F801800, 0x1A000800)
  | .p2SharedCem14HdrRgbLdrAlpha _ _ => (0x1F801800, 0x1C000800)
  | .p2SharedCem15HdrRgbHdrAlpha _ _ => (0x1F801800, 0x1E000800)
  | .p2IndepSel1 _ _ _ => (0x1801800, 0x800800)
  | .p2IndepSel2 _ _ _ => (0x1801800, 0x1000800)
  | .p2IndepSel3 _ _ _ => (0x1801800, 0x1800800)
  | .p3SharedCem0LdrLumDirect _ _ => (0x1F801800, 0x1000)
  | .p3SharedCem1LdrLumBaseOffset _ _ => (0x1F801800, 0x2001000)
  | .p3SharedCem2HdrLumLarge _ _ => (0x1F801800, 0x4001000)
  | .p3SharedCem3HdrLumSmall _ _ => (0x1F801800, 0x6001000)
  | .p3SharedCem4LdrLumaDirect _ _ => (0x1F801800, 0x8001000)
  | .p3SharedCem5LdrLumaBaseOffset _ _ => (0x1F801800, 0xA001000)
  | .p3SharedCem6LdrRgbBaseScale _ _ => (0x1F801800, 0xC001000)
  | .p3SharedCem7HdrRgbBaseScale _ _ => (0x1F801800, 0xE001000)
  | .p3SharedCem8LdrRgbDirect _ _ => (0x1F801800, 0x10001000)
  | .p3SharedCem9LdrRgbBaseOffset _ _ => (0x1F801800, 0x12001000)
  | .p3SharedCem10LdrRgbBaseScale2a _ _ => (0x1F801800, 0x14001000)
  | .p3SharedCem11HdrRgbDirect _ _ => (0x1F801800, 0x16001000)
  | .p3SharedCem12LdrRgbaDirect _ _ => (0x1F801800, 0x18001000)
  | .p3SharedCem13LdrRgbaBaseOffset _ _ => (0x1F801800, 0x1A001000)
  | .p3SharedCem14HdrRgbLdrAlpha _ _ => (0x1F801800, 0x1C001000)
  | .p3SharedCem15HdrRgbHdrAlpha _ _ => (0x1F801800, 0x1E001000)
  | .p3IndepSel1 _ _ _ => (0x1801800, 0x801000)
  | .p3IndepSel2 _ _ _ => (0x1801800, 0x1001000)
  | .p3IndepSel3 _ _ _ => (0x1801800, 0x1801000)
  | .p4SharedCem0LdrLumDirect _ _ => (0x1F801800, 0x1800)
  | .p4SharedCem1LdrLumBaseOffset _ _ => (0x1F801800, 0x2001800)
  | .p4SharedCem2HdrLumLarge _ _ => (0x1F801800, 0x4001800)
  | .p4SharedCem3HdrLumSmall _ _ => (0x1F801800, 0x6001800)
  | .p4SharedCem4LdrLumaDirect _ _ => (0x1F801800, 0x8001800)
  | .p4SharedCem5LdrLumaBaseOffset _ _ => (0x1F801800, 0xA001800)
  | .p4SharedCem6LdrRgbBaseScale _ _ => (0x1F801800, 0xC001800)
  | .p4SharedCem7HdrRgbBaseScale _ _ => (0x1F801800, 0xE001800)
  | .p4SharedCem8LdrRgbDirect _ _ => (0x1F801800, 0x10001800)
  | .p4SharedCem9LdrRgbBaseOffset _ _ => (0x1F801800, 0x12001800)
  | .p4SharedCem10LdrRgbBaseScale2a _ _ => (0x1F801800, 0x14001800)
  | .p4SharedCem11HdrRgbDirect _ _ => (0x1F801800, 0x16001800)
  | .p4SharedCem12LdrRgbaDirect _ _ => (0x1F801800, 0x18001800)
  | .p4SharedCem13LdrRgbaBaseOffset _ _ => (0x1F801800, 0x1A001800)
  | .p4SharedCem14HdrRgbLdrAlpha _ _ => (0x1F801800, 0x1C001800)
  | .p4SharedCem15HdrRgbHdrAlpha _ _ => (0x1F801800, 0x1E001800)
  | .p4IndepSel1 _ _ _ => (0x1801800, 0x801800)
  | .p4IndepSel2 _ _ _ => (0x1801800, 0x1001800)
  | .p4IndepSel3 _ _ _ => (0x1801800, 0x1801800)
  | .nop => (0x7, 0x0)
  | .decode => (0x7, 0x1)
  | .isvalid => (0x7, 0x2)
  | .encVoid => (0x7, 0x3)
  | .encNormal => (0x7, 0x4)
  | .genDefault => (0x7, 0x5)
  | .reserved6 => (0x7, 0x6)
  | .reserved7 => (0x7, 0x7)

/-- The bits of the fields `D`, `H`, `r0` in layouts 0 to 8 (R74). -/
def encodeDHR (d h r0 : Bool) : Nat := d.toNat * 2 ^ 10 + h.toNat * 2 ^ 9 + r0.toNat * 2 ^ 4

/-- The fields of a one-partition row above its CEM (R73). -/
def encodeSingle (data : BitVec 111) : Nat := data.toNat * 2 ^ 17

/-- The fields of a multi-partition row but `P`, `SEL` and the four bits above it (R73). -/
def encodeMulti (seed : BitVec 10) (data : BitVec 99) : Nat := seed.toNat * 2 ^ 13 + data.toNat * 2 ^ 29

/-- The bits of an instruction, bit 0 the least significant: the row's fixed bits and its operands at their positions
(R72 to R77, R90). Bits that belong to the other part of the block are 0. -/
def encodeWord (i : Instr) : Nat :=
  match i with
  | .voidExtent d rsv minS maxS minT maxT cr cg cb ca => 0x1FC + d.toNat * 2 ^ 9 + rsv.toNat * 2 ^ 10 + minS.toNat * 2 ^ 12 + maxS.toNat * 2 ^ 25
    + minT.toNat * 2 ^ 38 + maxT.toNat * 2 ^ 51 + cr.toNat * 2 ^ 64 + cg.toNat * 2 ^ 80 + cb.toNat * 2 ^ 96
    + ca.toNat * 2 ^ 112
  | .reservedLow4Zero x => 0x0 + x.toNat * 2 ^ 4
  | .reserved111_01 hi lo => 0x1C4 + hi.toNat * 2 ^ 9 + lo.toNat * 2 ^ 4
  | .reserved111_10 hi lo => 0x1C8 + hi.toNat * 2 ^ 9 + lo.toNat * 2 ^ 4
  | .reserved111_11_00 hi => 0x1CC + hi.toNat * 2 ^ 9
  | .reserved111_11_01 hi => 0x1DC + hi.toNat * 2 ^ 9
  | .reserved111_11_10 hi => 0x1EC + hi.toNat * 2 ^ 9
  | .modeL0R1 d h b a r0 => 0x1 + encodeDHR d h r0 + b % 4 * 2 ^ 7 + a % 4 * 2 ^ 5
  | .modeL0R2 d h b a r0 => 0x2 + encodeDHR d h r0 + b % 4 * 2 ^ 7 + a % 4 * 2 ^ 5
  | .modeL0R3 d h b a r0 => 0x3 + encodeDHR d h r0 + b % 4 * 2 ^ 7 + a % 4 * 2 ^ 5
  | .modeL1R1 d h b a r0 => 0x5 + encodeDHR d h r0 + b % 4 * 2 ^ 7 + a % 4 * 2 ^ 5
  | .modeL1R2 d h b a r0 => 0x6 + encodeDHR d h r0 + b % 4 * 2 ^ 7 + a % 4 * 2 ^ 5
  | .modeL1R3 d h b a r0 => 0x7 + encodeDHR d h r0 + b % 4 * 2 ^ 7 + a % 4 * 2 ^ 5
  | .modeL2R1 d h b a r0 => 0x9 + encodeDHR d h r0 + b % 4 * 2 ^ 7 + a % 4 * 2 ^ 5
  | .modeL2R2 d h b a r0 => 0xA + encodeDHR d h r0 + b % 4 * 2 ^ 7 + a % 4 * 2 ^ 5
  | .modeL2R3 d h b a r0 => 0xB + encodeDHR d h r0 + b % 4 * 2 ^ 7 + a % 4 * 2 ^ 5
  | .modeL3R1 d h b a r0 => 0xD + encodeDHR d h r0 + b % 2 * 2 ^ 7 + a % 4 * 2 ^ 5
  | .modeL3R2 d h b a r0 => 0xE + encodeDHR d h r0 + b % 2 * 2 ^ 7 + a % 4 * 2 ^ 5
  | .modeL3R3 d h b a r0 => 0xF + encodeDHR d h r0 + b % 2 * 2 ^ 7 + a % 4 * 2 ^ 5
  | .modeL4R1 d h b a r0 => 0x10D + encodeDHR d h r0 + b % 2 * 2 ^ 7 + a % 4 * 2 ^ 5
  | .modeL4R2 d h b a r0 => 0x10E + encodeDHR d h r0 + b % 2 * 2 ^ 7 + a % 4 * 2 ^ 5
  | .modeL4R3 d h b a r0 => 0x10F + encodeDHR d h r0 + b % 2 * 2 ^ 7 + a % 4 * 2 ^ 5
  | .modeL5R1 d h a r0 => 0x4 + encodeDHR d h r0 + a % 4 * 2 ^ 5
  | .modeL5R2 d h a r0 => 0x8 + encodeDHR d h r0 + a % 4 * 2 ^ 5
  | .modeL5R3 d h a r0 => 0xC + encodeDHR d h r0 + a % 4 * 2 ^ 5
  | .modeL6R1 d h a r0 => 0x84 + encodeDHR d h r0 + a % 4 * 2 ^ 5
  | .modeL6R2 d h a r0 => 0x88 + encodeDHR d h r0 + a % 4 * 2 ^ 5
  | .modeL6R3 d h a r0 => 0x8C + encodeDHR d h r0 + a % 4 * 2 ^ 5
  | .modeL7R1 d h r0 => 0x184 + encodeDHR d h r0
  | .modeL7R2 d h r0 => 0x188 + encodeDHR d h r0
  | .modeL7R3 d h r0 => 0x18C + encodeDHR d h r0
  | .modeL8R1 d h r0 => 0x1A4 + encodeDHR d h r0
  | .modeL8R2 d h r0 => 0x1A8 + encodeDHR d h r0
  | .modeL8R3 d h r0 => 0x1AC + encodeDHR d h r0
  | .modeL9R1 b a r0 => 0x104 + b % 4 * 2 ^ 9 + a % 4 * 2 ^ 5 + r0.toNat * 2 ^ 4
  | .modeL9R2 b a r0 => 0x108 + b % 4 * 2 ^ 9 + a % 4 * 2 ^ 5 + r0.toNat * 2 ^ 4
  | .modeL9R3 b a r0 => 0x10C + b % 4 * 2 ^ 9 + a % 4 * 2 ^ 5 + r0.toNat * 2 ^ 4
  | .cem0LdrLumDirect data => 0x0 + encodeSingle data
  | .cem1LdrLumBaseOffset data => 0x2000 + encodeSingle data
  | .cem2HdrLumLarge data => 0x4000 + encodeSingle data
  | .cem3HdrLumSmall data => 0x6000 + encodeSingle data
  | .cem4LdrLumaDirect data => 0x8000 + encodeSingle data
  | .cem5LdrLumaBaseOffset data => 0xA000 + encodeSingle data
  | .cem6LdrRgbBaseScale data => 0xC000 + encodeSingle data
  | .cem7HdrRgbBaseScale data => 0xE000 + encodeSingle data
  | .cem8LdrRgbDirect data => 0x10000 + encodeSingle data
  | .cem9LdrRgbBaseOffset data => 0x12000 + encodeSingle data
  | .cem10LdrRgbBaseScale2a data => 0x14000 + encodeSingle data
  | .cem11HdrRgbDirect data => 0x16000 + encodeSingle data
  | .cem12LdrRgbaDirect data => 0x18000 + encodeSingle data
  | .cem13LdrRgbaBaseOffset data => 0x1A000 + encodeSingle data
  | .cem14HdrRgbLdrAlpha data => 0x1C000 + encodeSingle data
  | .cem15HdrRgbHdrAlpha data => 0x1E000 + encodeSingle data
  | .p2SharedCem0LdrLumDirect seed data => 0x800 + encodeMulti seed data
  | .p2SharedCem1LdrLumBaseOffset seed data => 0x2000800 + encodeMulti seed data
  | .p2SharedCem2HdrLumLarge seed data => 0x4000800 + encodeMulti seed data
  | .p2SharedCem3HdrLumSmall seed data => 0x6000800 + encodeMulti seed data
  | .p2SharedCem4LdrLumaDirect seed data => 0x8000800 + encodeMulti seed data
  | .p2SharedCem5LdrLumaBaseOffset seed data => 0xA000800 + encodeMulti seed data
  | .p2SharedCem6LdrRgbBaseScale seed data => 0xC000800 + encodeMulti seed data
  | .p2SharedCem7HdrRgbBaseScale seed data => 0xE000800 + encodeMulti seed data
  | .p2SharedCem8LdrRgbDirect seed data => 0x10000800 + encodeMulti seed data
  | .p2SharedCem9LdrRgbBaseOffset seed data => 0x12000800 + encodeMulti seed data
  | .p2SharedCem10LdrRgbBaseScale2a seed data => 0x14000800 + encodeMulti seed data
  | .p2SharedCem11HdrRgbDirect seed data => 0x16000800 + encodeMulti seed data
  | .p2SharedCem12LdrRgbaDirect seed data => 0x18000800 + encodeMulti seed data
  | .p2SharedCem13LdrRgbaBaseOffset seed data => 0x1A000800 + encodeMulti seed data
  | .p2SharedCem14HdrRgbLdrAlpha seed data => 0x1C000800 + encodeMulti seed data
  | .p2SharedCem15HdrRgbHdrAlpha seed data => 0x1E000800 + encodeMulti seed data
  | .p2IndepSel1 seed str4 data => 0x800800 + encodeMulti seed data + str4.toNat * 2 ^ 25
  | .p2IndepSel2 seed str4 data => 0x1000800 + encodeMulti seed data + str4.toNat * 2 ^ 25
  | .p2IndepSel3 seed str4 data => 0x1800800 + encodeMulti seed data + str4.toNat * 2 ^ 25
  | .p3SharedCem0LdrLumDirect seed data => 0x1000 + encodeMulti seed data
  | .p3SharedCem1LdrLumBaseOffset seed data => 0x2001000 + encodeMulti seed data
  | .p3SharedCem2HdrLumLarge seed data => 0x4001000 + encodeMulti seed data
  | .p3SharedCem3HdrLumSmall seed data => 0x6001000 + encodeMulti seed data
  | .p3SharedCem4LdrLumaDirect seed data => 0x8001000 + encodeMulti seed data
  | .p3SharedCem5LdrLumaBaseOffset seed data => 0xA001000 + encodeMulti seed data
  | .p3SharedCem6LdrRgbBaseScale seed data => 0xC001000 + encodeMulti seed data
  | .p3SharedCem7HdrRgbBaseScale seed data => 0xE001000 + encodeMulti seed data
  | .p3SharedCem8LdrRgbDirect seed data => 0x10001000 + encodeMulti seed data
  | .p3SharedCem9LdrRgbBaseOffset seed data => 0x12001000 + encodeMulti seed data
  | .p3SharedCem10LdrRgbBaseScale2a seed data => 0x14001000 + encodeMulti seed data
  | .p3SharedCem11HdrRgbDirect seed data => 0x16001000 + encodeMulti seed data
  | .p3SharedCem12LdrRgbaDirect seed data => 0x18001000 + encodeMulti seed data
  | .p3SharedCem13LdrRgbaBaseOffset seed data => 0x1A001000 + encodeMulti seed data
  | .p3SharedCem14HdrRgbLdrAlpha seed data => 0x1C001000 + encodeMulti seed data
  | .p3SharedCem15HdrRgbHdrAlpha seed data => 0x1E001000 + encodeMulti seed data
  | .p3IndepSel1 seed str4 data => 0x801000 + encodeMulti seed data + str4.toNat * 2 ^ 25
  | .p3IndepSel2 seed str4 data => 0x1001000 + encodeMulti seed data + str4.toNat * 2 ^ 25
  | .p3IndepSel3 seed str4 data => 0x1801000 + encodeMulti seed data + str4.toNat * 2 ^ 25
  | .p4SharedCem0LdrLumDirect seed data => 0x1800 + encodeMulti seed data
  | .p4SharedCem1LdrLumBaseOffset seed data => 0x2001800 + encodeMulti seed data
  | .p4SharedCem2HdrLumLarge seed data => 0x4001800 + encodeMulti seed data
  | .p4SharedCem3HdrLumSmall seed data => 0x6001800 + encodeMulti seed data
  | .p4SharedCem4LdrLumaDirect seed data => 0x8001800 + encodeMulti seed data
  | .p4SharedCem5LdrLumaBaseOffset seed data => 0xA001800 + encodeMulti seed data
  | .p4SharedCem6LdrRgbBaseScale seed data => 0xC001800 + encodeMulti seed data
  | .p4SharedCem7HdrRgbBaseScale seed data => 0xE001800 + encodeMulti seed data
  | .p4SharedCem8LdrRgbDirect seed data => 0x10001800 + encodeMulti seed data
  | .p4SharedCem9LdrRgbBaseOffset seed data => 0x12001800 + encodeMulti seed data
  | .p4SharedCem10LdrRgbBaseScale2a seed data => 0x14001800 + encodeMulti seed data
  | .p4SharedCem11HdrRgbDirect seed data => 0x16001800 + encodeMulti seed data
  | .p4SharedCem12LdrRgbaDirect seed data => 0x18001800 + encodeMulti seed data
  | .p4SharedCem13LdrRgbaBaseOffset seed data => 0x1A001800 + encodeMulti seed data
  | .p4SharedCem14HdrRgbLdrAlpha seed data => 0x1C001800 + encodeMulti seed data
  | .p4SharedCem15HdrRgbHdrAlpha seed data => 0x1E001800 + encodeMulti seed data
  | .p4IndepSel1 seed str4 data => 0x801800 + encodeMulti seed data + str4.toNat * 2 ^ 25
  | .p4IndepSel2 seed str4 data => 0x1001800 + encodeMulti seed data + str4.toNat * 2 ^ 25
  | .p4IndepSel3 seed str4 data => 0x1801800 + encodeMulti seed data + str4.toNat * 2 ^ 25
  | .nop => 0x0
  | .decode => 0x1
  | .isvalid => 0x2
  | .encVoid => 0x3
  | .encNormal => 0x4
  | .genDefault => 0x5
  | .reserved6 => 0x6
  | .reserved7 => 0x7

/-- The bytes of an instruction: one for a command, sixteen for a part of a block (`20_memory.md` R53). -/
def encode (i : Instr) : List Byte :=
  match i.space with
  | .command => [BitVec.ofNat 8 (encodeWord i)]
  | .blockMode => bytesOfBlock (BitVec.ofNat 128 (encodeWord i))
  | .endpoint => bytesOfBlock (BitVec.ofNat 128 (encodeWord i))

/-- The space in which a word of the opcode table is read (log 14). The table numbers the bits of three different words
alike: a command is 3 bits (one byte), a block mode lies in the low 11 bits of a block (one or two bytes), a CEM row in
bits 28:11 of a block whose block-mode bits it leaves 0 (three or four bytes). -/
def tableSpace (nbits w : Nat) : Space :=
  if nbits ≤ 8 then (if w < 8 then .command else .blockMode)
  else if nbits ≤ 16 then .blockMode
  else if bitsOf w 10 0 ≠ 0 then .blockMode
  else if nbits ≤ 32 ∨ w ≠ 0 then .endpoint
  else .blockMode

/-- The bytes of a word of the opcode table as the hardware stores them: the command code, or the sixteen bytes of the
block whose low bits are `w` (`20_memory.md` R52). -/
def tableBytes (nbits w : Nat) : List Byte :=
  match tableSpace nbits w with
  | .command => [BitVec.ofNat 8 w]
  | .blockMode => bytesOfBlock (BitVec.ofNat 128 w)
  | .endpoint => bytesOfBlock (BitVec.ofNat 128 w)

/-- The instruction the decoder reads from a word of the opcode table. -/
def decodeTableWord (nbits w : Nat) : Option Instr :=
  match decode (tableSpace nbits w) (tableBytes nbits w) with
  | .ok i => some i
  | .error _ => none

end Sys2Proof
end

