-- ==== Sys2Proof/Machine/Operands.lean ====
section
/-! DEFINITION. The operands of the commands and of the block: the fields of the registers (`10_state.md` R24 to R31) and
the positions computed from a block (`30_encoding.md` R78). -/

namespace Sys2Proof.Machine

/-! ### `CFG` -/

/-- `CFG.FMT` (R24). -/
def cfgFmt (cfg : BitVec 6) : Nat := bitsOf cfg.toNat 3 0

/-- `CFG.SRGB` (R25). -/
def cfgSrgb (cfg : BitVec 6) : Bool := bitAt cfg.toNat 4

/-- `CFG.HDRMODE` (R26). -/
def cfgHdrMode (cfg : BitVec 6) : Bool := bitAt cfg.toNat 5

/-- The footprint `(BW, BH)` of a format (R24). Formats 14 and 15 are reserved: every command that uses the footprint is
refused for them before it is read, and this table has no texel there (log 15). -/
def footprint (fmt : Nat) : Nat × Nat :=
  match fmt with
  | 0 => (4, 4)
  | 1 => (5, 4)
  | 2 => (5, 5)
  | 3 => (6, 5)
  | 4 => (6, 6)
  | 5 => (8, 5)
  | 6 => (8, 6)
  | 7 => (8, 8)
  | 8 => (10, 5)
  | 9 => (10, 6)
  | 10 => (10, 8)
  | 11 => (10, 10)
  | 12 => (12, 10)
  | 13 => (12, 12)
  | _ => (0, 0)

/-- `BW` of a configuration. -/
def blockW (cfg : BitVec 6) : Nat := (footprint (cfgFmt cfg)).1

/-- `BH` of a configuration. -/
def blockH (cfg : BitVec 6) : Nat := (footprint (cfgFmt cfg)).2

/-- The number of texels of the footprint. -/
def texelCount (cfg : BitVec 6) : Nat := blockW cfg * blockH cfg

/-- `CFG` is one `DECODE` and `ISVALID` accept (`47_block_assembler.md` R300). -/
def cfgDecodeLegal (cfg : BitVec 6) : Bool :=
  decide (cfgFmt cfg < 14) && !(cfgSrgb cfg && cfgHdrMode cfg)

/-! ### `VE_PARAMS` (R29) -/

/-- `VE_PARAMS.ISHDR`. -/
def veIsHdr (v : BitVec 65) : Bool := bitAt v.toNat 0
/-- `VE_PARAMS.R`. -/
def veR (v : BitVec 65) : Nat := bitsOf v.toNat 16 1
/-- `VE_PARAMS.G`. -/
def veG (v : BitVec 65) : Nat := bitsOf v.toNat 32 17
/-- `VE_PARAMS.B`. -/
def veB (v : BitVec 65) : Nat := bitsOf v.toNat 48 33
/-- `VE_PARAMS.A`. -/
def veA (v : BitVec 65) : Nat := bitsOf v.toNat 64 49

/-! ### `NB_PARAMS` (R30) -/

/-- `GRID_W`. -/
def nbGridW (v : BitVec 45) : Nat := bitsOf v.toNat 3 0
/-- `GRID_H`. -/
def nbGridH (v : BitVec 45) : Nat := bitsOf v.toNat 7 4
/-- `ISE_MODE`; 3 is reserved. -/
def nbIseMode (v : BitVec 45) : Option IseMode :=
  match bitsOf v.toNat 9 8 with
  | 0 => some .trit
  | 1 => some .quint
  | 2 => some .plainBit
  | _ => none
/-- `ISE_BITS`. -/
def nbIseBits (v : BitVec 45) : Nat := bitsOf v.toNat 12 10
/-- `DUAL`. -/
def nbDual (v : BitVec 45) : Bool := bitAt v.toNat 13
/-- `CCS`. -/
def nbCcs (v : BitVec 45) : Nat := bitsOf v.toNat 15 14
/-- `NPART`, the number of partitions minus 1. -/
def nbNpart (v : BitVec 45) : Nat := bitsOf v.toNat 17 16
/-- `SINGLE_CEM`. -/
def nbSingleCem (v : BitVec 45) : Bool := bitAt v.toNat 18
/-- `SEED`. -/
def nbSeed (v : BitVec 45) : Nat := bitsOf v.toNat 28 19
/-- `CEM0` to `CEM3`. -/
def nbCem (v : BitVec 45) (p : Nat) : Nat := v.toNat / 2 ^ (29 + 4 * p) % 16

/-! ### Computed positions of a block (`30_encoding.md` R78) -/

/-- The number of weight planes. -/
def planesOf (dual : Bool) : Nat := if dual then 2 else 1

/-- `ncfg`, the configuration bits of `n` partitions. -/
def configBits (n : Nat) (single dual : Bool) : Nat :=
  (if n = 1 then 17 else if single then 29 else 25 + 3 * n) + (if dual then 2 else 0)

/-- `ncb`, the bits available for colour endpoint data; negative when the block has no room (R310). -/
def colourBits (n : Nat) (single dual : Bool) (nwb : Nat) : Int :=
  128 - (nwb : Int) - (configBits n single dual : Int)

/-- `extra`, the position of the first extra CEM bit: `127 - nwb - k` with `k` = -1, 1, 4, 7. -/
def extraPos (n : Nat) (single : Bool) (nwb : Nat) : Nat :=
  if single then 128 - nwb
  else 127 - nwb - (if n = 2 then 1 else if n = 3 then 4 else 7)

/-- The first bit of the colour endpoint data (R73, `47_block_assembler.md` R312). -/
def colourStart (n : Nat) : Nat := if n = 1 then 17 else 29

end Sys2Proof.Machine
end

