-- ==== Sys2Proof/Machine/Ops.lean ====
section
/-! DEFINITION. The named operations over the block, the texel buffer and the registers, and the outcomes of a command.
The machine takes no trap (`60_exceptions.md` R417, R418): what stands in the place of an exception is the end of a
command with a cause, `endCommand`, in its forms `refuse` (R408), `finish` and `errorBlock` (R404 to R407). -/

namespace Sys2Proof.Machine

/-- What an instruction answers. -/
abbrev Result := Host.Outcome State Fault Refusal

/-! ### The block: `bit_cursor` (`40_bit_cursor.md`) -/

/-- `getBits(v, low, high)` (R100). -/
def getBits (v low high : Nat) : Nat := v / 2 ^ low % 2 ^ (high - low + 1)

/-- `getBit(v, i)` (R107). -/
def getBit (v i : Nat) : Nat := getBits v i i

/-- `isBitSet(v, i)` (R107). -/
def isBitSet (v i : Nat) : Bool := getBit v i == 1

/-- `reverseBits(x, k)` (R102): bit `i` of the result is bit `k - 1 - i` of `x`. -/
def reverseBits (x : Nat) : Nat → Nat
  | 0 => 0
  | k + 1 => x % 2 * 2 ^ k + reverseBits (x / 2) k

/-- How many bits a `next(cur, n)` finds in the stream (R104, R106). -/
def Cursor.avail (cur : Cursor) (n : Nat) : Nat := min cur.length (cur.ndx + n) - cur.ndx

/-- The cursor after a `next` of `n` bits (R104 to R106, R110). -/
def Cursor.advance (cur : Cursor) (n : Nat) : Cursor := { cur with ndx := cur.ndx + n }

/-- The value of `next(cur, n)` on a read cursor over a block given as a number (R104 to R106): missing high bits are
0, and nothing outside the cursor's range is read. -/
def Cursor.value (blk : Nat) (cur : Cursor) (n : Nat) : Nat :=
  if n = 0 ∨ cur.length ≤ cur.ndx then 0
  else
    let k := cur.avail n
    if cur.forward then getBits blk (cur.start + cur.ndx) (cur.start + cur.ndx + k - 1)
    else
      let hi := cur.start - cur.ndx
      reverseBits (getBits blk (hi + 1 - k) hi) k

/-- `next(cur, n)` on a read cursor. -/
def Cursor.next (blk : Nat) (cur : Cursor) (n : Nat) : Nat × Cursor := (cur.value blk n, cur.advance n)

/-- `setBits(buf, low, high, x)` (R109): bits `high..low` become `x`, every other bit is unchanged. -/
def setBits (buf : Block) (low high x : Nat) : Block :=
  let w := high - low + 1
  BitVec.ofNat 128 (buf.toNat - getBits buf.toNat low high * 2 ^ low + x % 2 ^ w * 2 ^ low)

/-- `setBit(buf, i, x)` (R109). -/
def setBit (buf : Block) (i x : Nat) : Block := setBits buf i i x

/-- The buffer after `next(cur, n, x)` on a write cursor (R110): bits that do not fit are dropped. -/
def Cursor.put (buf : Block) (cur : Cursor) (n x : Nat) : Block :=
  if n = 0 ∨ cur.length ≤ cur.ndx then buf
  else
    let k := cur.avail n
    let y := x % 2 ^ k
    if cur.forward then setBits buf (cur.start + cur.ndx) (cur.start + cur.ndx + k - 1) y
    else
      let hi := cur.start - cur.ndx
      setBits buf (hi + 1 - k) hi (reverseBits y k)

/-- A sequence of `next(cur, n, x)` calls on one write cursor, as the pairs `(n, x)` in order. -/
def Cursor.putAll (buf : Block) (cur : Cursor) : List (Nat × Nat) → Block
  | [] => buf
  | (n, x) :: rest => Cursor.putAll (cur.put buf n x) (cur.advance n) rest

/-! ### The texel buffer -/

/-- The value of the byte at an address, if it has one (`10_state.md` R42). -/
def Memory.read (m : Memory) (addr : Nat) : Option Byte := m.lookup addr

/-- Bytes as cells at consecutive addresses. -/
def cellsAt (addr : Nat) : List Byte → Memory
  | [] => []
  | b :: bs => (addr, b) :: cellsAt (addr + 1) bs

/-- The cells below an address. -/
def Memory.below (m : Memory) (addr : Nat) : Memory := m.filter (fun c => decide (c.1 < addr))

/-- The cells from an address on. -/
def Memory.above (m : Memory) (addr : Nat) : Memory := m.filter (fun c => decide (addr ≤ c.1))

/-- Store consecutive bytes from an address on; every other byte keeps what it held (`20_memory.md` R57). -/
def Memory.writeBytes (m : Memory) (addr : Nat) (bs : List Byte) : Memory :=
  m.below addr ++ (cellsAt addr bs ++ m.above (addr + bs.length))

/-- `MemWrite(TX, addr, n, v)` of `00_scope.md` R14 as bytes: `n` bytes of `v`, least significant first. -/
def leBytes (n v : Nat) : List Byte :=
  match n with
  | 0 => []
  | n + 1 => BitVec.ofNat 8 v :: leBytes n (v / 256)

/-- The bytes of one texel: one byte per channel on the sRGB path (`20_memory.md` R55), four per channel on the linear
path (R56), channels in the order R, G, B, A. -/
def texelBytes (srgb : Bool) (t : Rgba) : List Byte :=
  let n := if srgb then 1 else 4
  leBytes n t.r ++ leBytes n t.g ++ leBytes n t.b ++ leBytes n t.a

/-- All texels of a block, in index order from address 0: texel `i`, channel `c` lands at `4i + c` or `16i + 4c`
(`47_block_assembler.md` R332). -/
def texelsBytes (srgb : Bool) (ts : List Rgba) : List Byte := ts.flatMap (texelBytes srgb)

/-! ### The outcomes of a command -/

/-- The end event of a command (`70_reset_and_hazards.md` R450): `STATUS` is written, `CMD` reads 0 again, and the
per-command values cease to exist (`10_state.md` R40, R41). -/
def endCommand (cause : Cause) (raiseFault : Bool) (s : State) : State :=
  { s with status := endStatus cause raiseFault s.status, cmd := 0, phase := .idle, blk := 0,
           bm := BlockModeInfo.empty }

/-- A refusal (`60_exceptions.md` R408): nothing is written but `STATUS`, and `FAULT` is set. -/
def refuse (cause : Cause) (s : State) : Result := .next (endCommand cause true s)

/-- A command that succeeds. -/
def succeed (s : State) : Result := .next (endCommand .none false s)

/-- `ISVALID` (code 2) runs the steps of `DECODE` with every write to `TX` suppressed (`47_block_assembler.md` R340). -/
def writesTx (s : State) : Bool := s.cmd != 2#3

/-- `TX` after the texels of a decode (R332, R340). -/
def storeTexels (ts : List Rgba) (s : State) : State :=
  if writesTx s then { s with tx := s.tx.writeBytes 0 (texelsBytes (cfgSrgb s.cfg) ts) } else s

/-- `finish(texels, cause)` of `47_block_assembler.md` R300: the texels are stored and the command ends; only the
numeric-domain cause raises `FAULT` (R328). -/
def finish (ts : List Rgba) (cause : Cause) (s : State) : Result :=
  .next (endCommand cause (decide (cause = .veInfNan)) (storeTexels ts s))

/-- The error colour, magenta, in the form of the output path (`47_block_assembler.md` R304, `60_exceptions.md` R404,
C12). -/
def errorColour (srgb : Bool) : Rgba :=
  if srgb then ⟨0xFF, 0x00, 0xFF, 0xFF⟩ else ⟨0x3F800000, 0, 0x3F800000, 0x3F800000⟩

/-- A whole-block error (`60_exceptions.md` R404): every texel of the footprint gets the error colour. The numeric-domain
error (R406) is the same with its own cause. -/
def errorBlock (cause : Cause) (s : State) : Result :=
  finish (List.replicate (texelCount s.cfg) (errorColour (cfgSrgb s.cfg))) cause s

/-- The start event (`70_reset_and_hazards.md` R450): `BUSY` is set, `DONE` cleared, and the code is the next
instruction. -/
def startCommand (c : BitVec 3) (s : State) : State :=
  { s with status := startStatus s.status, cmd := c, phase := .command }

/-- The block is latched and its block mode is the next instruction (`47_block_assembler.md` R300, `20_memory.md` R61).
`c` is 1 for `DECODE`, 2 for `ISVALID`. -/
def latchBlock (c : BitVec 3) (s : State) : State :=
  { s with cmd := c, phase := .blockMode, blk := s.blkIn }

/-- The block mode is parsed and the partition and CEM fields are the next instruction. -/
def latchMode (bm : BlockModeInfo) (s : State) : State :=
  { s with phase := .endpoint, bm := bm }

end Sys2Proof.Machine
end

