-- ==== Sys2Proof/Machine/Texels.lean ====
section
/-! DEFINITION. The colour arithmetic of `texel_assembler` (`47_block_assembler.md` R320 to R331): interpolation and the
float conversions. -/

namespace Sys2Proof.Machine

/-! ### Float conversions (R329, R330) -/

/-- `unorm16_to_f32(c)` (R329): the binary32 pattern of `c / 65536`, and 1.0 for 65535. -/
def unorm16ToF32 (c : Nat) : Nat :=
  if c = 65535 then 0x3F800000
  else if c = 0 then 0
  else (111 + c.log2) * 2 ^ 23 ||| (c - 2 ^ c.log2) * 2 ^ (23 - c.log2)

/-- `f16_is_inf_or_nan(h)`: exponent field 31 (R302, `48_block_generator.md` R352). -/
def f16IsInfOrNan (h : Nat) : Bool := getBits h 10 14 == 31

/-- `f16_to_f32(h)` (R330): the binary32 pattern of the same value. -/
def f16ToF32 (h : Nat) : Nat :=
  let s := getBit h 15 * 2 ^ 31
  let e := getBits h 10 14
  let m := getBits h 0 9
  if e = 0 ∧ m = 0 then s
  else if e = 0 then
    let k := 10 - m.log2
    s ||| (113 - k) * 2 ^ 23 ||| m * 2 ^ k % 1024 * 2 ^ 13
  else if e = 31 then s ||| 0xFF * 2 ^ 23 ||| m * 2 ^ 13
  else s ||| (e + 112) * 2 ^ 23 ||| m * 2 ^ 13

/-! ### Interpolation (R322 to R327) -/

/-- The widening of an LDR endpoint channel to 16 bits (R323). -/
def widenLdr (srgb : Bool) (a : Nat) : Nat := a * 256 + (if srgb then 0x80 else a)

/-- The interpolation of two 16-bit values by a weight in 0..64 (R323, R325). -/
def interpolate (c0 c1 w : Nat) : Nat := (c0 * (64 - w) + c1 * w + 32) / 64

/-- The LDR path (R323, R324): a byte on the sRGB path, a binary32 pattern on the linear one. -/
def blendLdr (srgb : Bool) (a b w : Nat) : Nat :=
  let c := interpolate (widenLdr srgb a) (widenLdr srgb b) w
  if srgb then c / 256 else unorm16ToF32 c

/-- The mantissa curve of R326. -/
def hdrMantissa (m : Nat) : Nat :=
  if m < 512 then 3 * m else if m < 1536 then 4 * m - 512 else 5 * m - 2048

/-- The 16-bit HDR value as a binary16 pattern (R326). -/
def hdrToF16 (c : Nat) : Nat := getBits c 11 15 * 2 ^ 10 + hdrMantissa (getBits c 0 10) / 8

/-- The saturation of R327: a pattern with exponent field 31 becomes the largest finite one. -/
def saturateF16 (cf : Nat) : Nat := if f16IsInfOrNan cf then 0x7BFF else cf

/-- The HDR path (R325 to R327). -/
def blendHdr (a b w : Nat) : Nat := f16ToF32 (saturateF16 (hdrToF16 (interpolate (a * 16) (b * 16) w)))

/-- `cem_is_hdr(cem)` (`43_color_endpoints_ldr.md` R191). -/
def cemIsHdr (cem : Nat) : Bool := [2, 3, 7, 11, 14, 15].contains cem

/-- The path of a channel (R322): HDR for an HDR mode, but for the alpha of CEM 14. -/
def usesHdrPath (ch cem : Nat) : Bool := cemIsHdr cem && !(ch == 3 && cem == 14)

/-- `blend(e0[ch], e1[ch], w, ch, cem)` (R322). -/
def blend (srgb : Bool) (a b w ch cem : Nat) : Nat :=
  if usesHdrPath ch cem then blendHdr a b w else blendLdr srgb a b w

/-- The weight of a channel (R320): the second plane only for the selected channel of a dual-plane block. -/
def channelWeight (tw : TexelWeight) (ccs : Option Nat) (ch : Nat) : Nat :=
  if ccs = some ch then tw.plane1.getD 0 else tw.plane0

/-- The texel of an endpoint pair (R318). -/
def blendTexel (srgb : Bool) (ep : EndpointPair) (tw : TexelWeight) (ccs : Option Nat) (cem : Nat) : Rgba :=
  { r := blend srgb ep.e0.r ep.e1.r (channelWeight tw ccs 0) 0 cem
    g := blend srgb ep.e0.g ep.e1.g (channelWeight tw ccs 1) 1 cem
    b := blend srgb ep.e0.b ep.e1.b (channelWeight tw ccs 2) 2 cem
    a := blend srgb ep.e0.a ep.e1.a (channelWeight tw ccs 3) 3 cem }

end Sys2Proof.Machine
end

