-- ==== Sys2Proof/Machine/Ise.lean ====
section
/-! DEFINITION. `ise_codec` (`41_ise_codec.md`): integer sequences, their decoding and encoding, and the
unquantisation of colour values and weights. -/

namespace Sys2Proof.Machine

/-! ### Sizes (R120 to R122) -/

/-- `ise_required_bits(mode, numBits, n)` (R121). -/
def iseRequiredBits (p : IseParams) (n : Nat) : Nat :=
  match p.mode with
  | .trit => ceilDiv (8 * n) 5 + n * p.numBits
  | .quint => ceilDiv (7 * n) 3 + n * p.numBits
  | .plainBit => n * p.numBits

/-- `ise_range_max(mode, numBits)` (R122). -/
def iseRangeMax (p : IseParams) : Nat :=
  match p.mode with
  | .trit => 3 * 2 ^ p.numBits - 1
  | .quint => 5 * 2 ^ p.numBits - 1
  | .plainBit => 2 ^ p.numBits - 1

/-- How many elements one block of the mode holds (R124, R127); a plain-bit element stands alone (R129). -/
def iseBlockSize : IseMode → Nat
  | .trit => 5
  | .quint => 3
  | .plainBit => 1

/-- The widths of the pieces of `T` or `Q`, one after each element's raw bits (R124, R127). -/
def isePieceWidths : IseMode → List Nat
  | .trit => [2, 2, 1, 2, 1]
  | .quint => [3, 2, 2]
  | .plainBit => []

/-! ### Trits and quints (R123, R126, R140, R141) -/

/-- The first three trits `t0 t1 t2` from the five bits `C` of R123. -/
def lowTrits (c : Nat) : List Nat :=
  if getBits c 0 1 = 3 then [2 * getBit c 3 + getBit c 2 * (1 - getBit c 3), getBit c 4, 2]
  else if getBits c 2 3 = 3 then [getBits c 0 1, 2, 2]
  else [2 * getBit c 1 + getBit c 0 * (1 - getBit c 1), getBits c 2 3, getBit c 4]

/-- `trits_from_T(T)`, the trits `t0` to `t4` (R123). -/
def tritsFromT (t : Nat) : List Nat :=
  if getBits t 2 4 = 7 then lowTrits (getBits t 5 7 * 4 + getBits t 0 1) ++ [2, 2]
  else if getBits t 5 6 = 3 then lowTrits (getBits t 0 4) ++ [getBit t 7, 2]
  else lowTrits (getBits t 0 4) ++ [getBits t 5 6, getBit t 7]

/-- The first two quints `q0 q1` from the five bits `C` of R126. -/
def lowQuints (c : Nat) : List Nat :=
  if getBits c 0 2 = 5 then [getBits c 3 4, 4] else [getBits c 0 2, getBits c 3 4]

/-- `quints_from_Q(Q)`, the quints `q0` to `q2` (R126). -/
def quintsFromQ (q : Nat) : List Nat :=
  if getBits q 1 2 = 3 ∧ getBits q 5 6 = 0 then
    [4, 4, 4 * getBit q 0 + 2 * (getBit q 4 * (1 - getBit q 0)) + getBit q 3 * (1 - getBit q 0)]
  else if getBits q 1 2 = 3 then
    lowQuints (getBits q 3 4 * 8 + (3 - getBits q 5 6) * 2 + getBit q 0) ++ [4]
  else lowQuints (getBits q 0 4) ++ [getBits q 5 6]

/-- `T_from_trits(t0..t4)`: the smallest `T` with these trits (R140). -/
def tFromTrits (ts : List Nat) : Nat := ((List.range 256).find? (fun t => tritsFromT t == ts)).getD 0

/-- `Q_from_quints(q0..q2)`: the smallest `Q` with these quints (R141). -/
def qFromQuints (qs : List Nat) : Nat := ((List.range 128).find? (fun q => quintsFromQ q == qs)).getD 0

/-- The digits of a joined field `T` or `Q`. -/
def iseDigits (mode : IseMode) (tq : Nat) : List Nat :=
  match mode with
  | .trit => tritsFromT tq
  | .quint => quintsFromQ tq
  | .plainBit => [0]

/-- The field `T` or `Q` of a list of digits. -/
def iseJoined (mode : IseMode) (digits : List Nat) : Nat :=
  match mode with
  | .trit => tFromTrits digits
  | .quint => qFromQuints digits
  | .plainBit => 0

/-! ### Decoding (R124 to R130) -/

/-- The raw bits and the piece of each element of one block, in stream order (R124, R127); all `next` calls are made. -/
def readPieces (blk numBits : Nat) : List Nat → Cursor → List (Nat × Nat)
  | [], _ => []
  | w :: ws, cur =>
    (cur.value blk numBits, (cur.advance numBits).value blk w)
      :: readPieces blk numBits ws ((cur.advance numBits).advance w)

/-- `T` or `Q` from its pieces; the pieces of elements from `nvals` on are 0 (R124, R125, R127, R128). -/
def joinPieces : Nat → List Nat → List (Nat × Nat) → Nat
  | n + 1, w :: ws, p :: ps => p.2 + 2 ^ w * joinPieces n ws ps
  | _, _, _ => 0

/-- The elements of one block from its raw bits and digits. -/
def iseElems (numBits : Nat) : Nat → List (Nat × Nat) → List Nat → List IseElem
  | n + 1, p :: ps, d :: ds => ⟨p.1, d, d * 2 ^ numBits + p.1⟩ :: iseElems numBits n ps ds
  | _, _, _ => []

/-- The bits one block spans in its fixed layout (R130). -/
def iseBlockBits (p : IseParams) : Nat :=
  match p.mode with
  | .trit => 8 + 5 * p.numBits
  | .quint => 7 + 3 * p.numBits
  | .plainBit => p.numBits

/-- `decode_trit_block`, `decode_quint_block` (R124, R127) and one plain-bit element (R129). -/
def decodeIseBlock (blk : Nat) (p : IseParams) (nvals : Nat) (cur : Cursor) : List IseElem :=
  match p.mode with
  | .plainBit => [⟨cur.value blk p.numBits, 0, cur.value blk p.numBits⟩]
  | mode =>
    let ps := readPieces blk p.numBits (isePieceWidths mode) cur
    iseElems p.numBits nvals ps (iseDigits mode (joinPieces nvals (isePieceWidths mode) ps))

/-- `nb` blocks with `n` elements in all (R129). -/
def decodeIseBlocks (blk : Nat) (p : IseParams) : Nat → Nat → Cursor → List IseElem
  | 0, _, _ => []
  | nb + 1, n, cur =>
    decodeIseBlock blk p (min (iseBlockSize p.mode) n) cur
      ++ decodeIseBlocks blk p nb (n - iseBlockSize p.mode) (cur.advance (iseBlockBits p))

/-- `decode_ise(cur, mode, numBits, n)` (R129). -/
def decodeIse (blk : Nat) (cur : Cursor) (p : IseParams) (n : Nat) : List IseElem :=
  decodeIseBlocks blk p (ceilDiv n (iseBlockSize p.mode)) n cur

/-! ### Unquantisation (R131 to R139) -/

/-- The loop of `bit_replication_scale` (R131), at most `fuel` rounds from a shift on. -/
def replicateFrom (x ns : Nat) : Nat → Int → Nat
  | 0, _ => 0
  | fuel + 1, shift =>
    if shift ≤ -(ns : Int) then 0
    else (if 0 ≤ shift then x * 2 ^ shift.toNat else x / 2 ^ (-shift).toNat)
      ||| replicateFrom x ns fuel (shift - ns)

/-- `bit_replication_scale(x, ns, nd)` (R131). -/
def bitReplicationScale (x ns nd : Nat) : Nat := replicateFrom x ns nd ((nd : Int) - ns)

/-- A `B` of R133 or R137 from its printed pattern, most significant first: 0 is a constant 0, `k` is bit `k` of `m`
(`b` = 1, `c` = 2, `d` = 3, `e` = 4, `f` = 5). -/
def bitPattern (m : Nat) (pattern : List Nat) : Nat :=
  pattern.foldl (fun acc k => 2 * acc + (if k = 0 then 0 else getBit m k)) 0

/-- `C` and the pattern of `B` of a colour parameter pair (R133). R133 has rows for eleven pairs; the last line, 0 and
the empty pattern for every other pair, is the model's DESIGN CHOICE (log 15) and is never reached. -/
def colourUnquantRow (p : IseParams) : Nat × List Nat :=
  match p.mode, p.numBits with
  | .trit, 1 => (204, [0, 0, 0, 0, 0, 0, 0, 0, 0])
  | .quint, 1 => (113, [0, 0, 0, 0, 0, 0, 0, 0, 0])
  | .trit, 2 => (93, [1, 0, 0, 0, 1, 0, 1, 1, 0])
  | .quint, 2 => (54, [1, 0, 0, 0, 0, 1, 1, 0, 0])
  | .trit, 3 => (44, [2, 1, 0, 0, 0, 2, 1, 2, 1])
  | .quint, 3 => (26, [2, 1, 0, 0, 0, 0, 2, 1, 2])
  | .trit, 4 => (22, [3, 2, 1, 0, 0, 0, 3, 2, 1])
  | .quint, 4 => (13, [3, 2, 1, 0, 0, 0, 0, 3, 2])
  | .trit, 5 => (11, [4, 3, 2, 1, 0, 0, 0, 4, 3])
  | .quint, 5 => (6, [4, 3, 2, 1, 0, 0, 0, 0, 4])
  | .trit, 6 => (5, [5, 4, 3, 2, 1, 0, 0, 0, 5])
  | _, _ => (0, [])

/-- The formula of R133. -/
def colourUnquantFormula (p : IseParams) (e : IseElem) : Nat :=
  let row := colourUnquantRow p
  let a := getBit e.m 0 * 0x1FF
  let t := (e.tq * row.1 + bitPattern e.m row.2) ^^^ a
  (a &&& 0x80) ||| t / 4

/-- `unquant_color(e, mode, numBits)` (R132). -/
def unquantColor (p : IseParams) (e : IseElem) : Nat :=
  match p.mode with
  | .plainBit => bitReplicationScale e.v p.numBits 8
  | .trit => colourUnquantFormula p e
  | .quint => colourUnquantFormula p e

/-- The colour parameter pairs by falling range (R135). -/
def colourIseList : List IseParams :=
  [⟨.plainBit, 8⟩, ⟨.trit, 6⟩, ⟨.quint, 5⟩, ⟨.plainBit, 7⟩, ⟨.trit, 5⟩, ⟨.quint, 4⟩, ⟨.plainBit, 6⟩, ⟨.trit, 4⟩,
   ⟨.quint, 3⟩, ⟨.plainBit, 5⟩, ⟨.trit, 3⟩, ⟨.quint, 2⟩, ⟨.plainBit, 4⟩, ⟨.trit, 2⟩, ⟨.quint, 1⟩, ⟨.plainBit, 3⟩,
   ⟨.trit, 1⟩, ⟨.plainBit, 2⟩, ⟨.plainBit, 1⟩]

/-- `color_ise_params(avail, n)`, the first pair of the list that fits (R135). One fits whenever the check of
`47_block_assembler.md` R311 has passed; the last pair stands in otherwise and is never used (log 15). -/
def colourIseParams (avail n : Nat) : IseParams :=
  (colourIseList.find? (fun p => decide (iseRequiredBits p n ≤ avail))).getD ⟨.plainBit, 1⟩

/-- `C` and the pattern of `B` of a weight parameter pair (R137). R138 defines the function for the twelve weight pairs
only; the last line, 0 and the empty pattern for every other pair, is the model's DESIGN CHOICE (log 15) and is never
reached. -/
def weightUnquantRow (p : IseParams) : Nat × List Nat :=
  match p.mode, p.numBits with
  | .trit, 1 => (50, [0, 0, 0, 0, 0, 0, 0])
  | .quint, 1 => (28, [0, 0, 0, 0, 0, 0, 0])
  | .trit, 2 => (23, [1, 0, 0, 0, 1, 0, 1])
  | .quint, 2 => (13, [1, 0, 0, 0, 0, 1, 0])
  | .trit, 3 => (11, [2, 1, 0, 0, 0, 2, 1])
  | _, _ => (0, [])

/-- The formula of R137. -/
def weightUnquantFormula (p : IseParams) (e : IseElem) : Nat :=
  let row := weightUnquantRow p
  let a := getBit e.m 0 * 0x7F
  let t := (e.tq * row.1 + bitPattern e.m row.2) ^^^ a
  (a &&& 0x20) ||| t / 4

/-- The 6-bit value `w` of R136, before the adjustment. -/
def unquantWeight6 (p : IseParams) (e : IseElem) : Nat :=
  match p.mode, p.numBits with
  | .plainBit, n => bitReplicationScale e.v n 6
  | .trit, 0 => [0, 32, 63].getD e.v 0
  | .quint, 0 => [0, 16, 32, 47, 63].getD e.v 0
  | .trit, _ => weightUnquantFormula p e
  | .quint, _ => weightUnquantFormula p e

/-- `unquant_weight(e, mode, numBits)` (R136), for the twelve weight pairs. R138 leaves it undefined for other pairs and
lets no path lead to them; what it is there is the model's DESIGN CHOICE (log 15). -/
def unquantWeight (p : IseParams) (e : IseElem) : Nat :=
  let w := unquantWeight6 p e
  if 32 < w then w + 1 else w

/-! ### Encoding (R142 to R146) -/

/-- `n` entries of a list, zeros after its end. -/
def takePadded : Nat → List Nat → List Nat
  | 0, _ => []
  | n + 1, [] => 0 :: takePadded n []
  | n + 1, x :: xs => x :: takePadded n xs

/-- The `next` calls of one trit or quint block: the raw bits of each element, then its piece of `T` or `Q`. -/
def interleavePieces (numBits : Nat) : List Nat → List Nat → Nat → List (Nat × Nat)
  | w :: ws, m :: ms, tq => (numBits, m) :: (w, tq % 2 ^ w) :: interleavePieces numBits ws ms (tq / 2 ^ w)
  | _, _, _ => []

/-- The `next` calls of one block of plain values (R142, R143, R145). -/
def plainPairs (p : IseParams) (xs : List Nat) : List (Nat × Nat) :=
  match p.mode with
  | .plainBit => [(p.numBits, xs.headD 0)]
  | mode =>
    let padded := takePadded (iseBlockSize mode) xs
    interleavePieces p.numBits (isePieceWidths mode) (padded.map (· % 2 ^ p.numBits))
      (iseJoined mode (padded.map (· / 2 ^ p.numBits)))

/-- The `next` calls of one record `{TQ, BITS}` of which `nvals` elements are used (R142, R143, R145). Bit 7 of `TQ` is
ignored in quint mode: the pieces of `Q` take seven bits (R143). -/
def blockPairs (p : IseParams) (nvals : Nat) (b : IseBlock) : List (Nat × Nat) :=
  let bits := (b.bits.toList.map (·.toNat)).take nvals
  match p.mode with
  | .plainBit => [(p.numBits, bits.headD 0)]
  | mode =>
    interleavePieces p.numBits (isePieceWidths mode) (takePadded (iseBlockSize mode) bits) b.tq.toNat

/-- The `next` calls of `nb` blocks with `n` elements in all, plain form. -/
def plainSequence (p : IseParams) : Nat → Nat → List Nat → List (Nat × Nat)
  | 0, _, _ => []
  | nb + 1, n, xs =>
    plainPairs p (xs.take (min (iseBlockSize p.mode) n))
      ++ plainSequence p nb (n - iseBlockSize p.mode) (xs.drop (iseBlockSize p.mode))

/-- The `next` calls of the records of a sequence with `n` elements in all, block form. -/
def blockSequence (p : IseParams) : Nat → List IseBlock → List (Nat × Nat)
  | _, [] => []
  | n, b :: bs =>
    blockPairs p (min (iseBlockSize p.mode) n) b ++ blockSequence p (n - iseBlockSize p.mode) bs

/-- How many blocks a sequence of `n` elements has (R129, R145). -/
def iseBlockCount (p : IseParams) (n : Nat) : Nat := ceilDiv n (iseBlockSize p.mode)

/-- The plain values of an ISE input as numbers. -/
def plainValues (inp : IseInput) : List Nat := inp.plain.toList.map (·.toNat)

/-- The `next` calls of `encode_ise` (R145); the form applies to the whole sequence (R146). -/
def iseSequence (p : IseParams) (inp : IseInput) (n : Nat) : List (Nat × Nat) :=
  match inp.form with
  | .plain => plainSequence p (iseBlockCount p n) n (plainValues inp)
  | .block => blockSequence p n (inp.block.toList.take (iseBlockCount p n))

/-- `encode_ise(cur, mode, numBits, input, n)` on a buffer (R145). -/
def encodeIse (buf : Block) (cur : Cursor) (p : IseParams) (inp : IseInput) (n : Nat) : Block :=
  cur.putAll buf (iseSequence p inp n)

/-! ### The range check of an input (`48_block_generator.md` R362, L7 and L8 of R357) -/

/-- The used `BITS` of the records are below `2^numBits`. -/
def blocksInRange (p : IseParams) : Nat → List IseBlock → Bool
  | _, [] => true
  | n, b :: bs =>
    ((b.bits.toList.take (min (iseBlockSize p.mode) n)).all (fun x => decide (x.toNat < 2 ^ p.numBits)))
      && blocksInRange p (n - iseBlockSize p.mode) bs

/-- An ISE input is in range for `n` elements (R362); `TQ` is not checked (R363). -/
def iseInputInRange (p : IseParams) (inp : IseInput) (n : Nat) : Bool :=
  match inp.form with
  | .plain => ((plainValues inp).take n).all (fun x => decide (x ≤ iseRangeMax p))
  | .block => blocksInRange p n (inp.block.toList.take (iseBlockCount p n))

end Sys2Proof.Machine
end

