-- ==== Sys2Proof/Machine/Weights.lean ====
section
/-! DEFINITION. `bilinear_weight_interpolator` (`46_weight_interpolator.md`). -/

namespace Sys2Proof.Machine

/-- The number of weights `nw` of a block mode (`30_encoding.md` R78, `47_block_assembler.md` R305). -/
def weightCount (bm : BlockModeInfo) : Nat := bm.gridW * bm.gridH * planesOf bm.isDualPlane

/-- `nwb`, the number of weight bits (R305). -/
def weightBits (bm : BlockModeInfo) : Nat := iseRequiredBits bm.ise (weightCount bm)

/-- The weight cursor (R280, `40_bit_cursor.md` R103). -/
def weightCursor (nwb : Nat) : Cursor := { start := 127, length := nwb, forward := false, ndx := 0 }

/-- `wraw`, the decoded weight elements (R280). -/
def weightElems (blk : Nat) (bm : BlockModeInfo) : List IseElem :=
  decodeIse blk (weightCursor (weightBits bm)) bm.ise (weightCount bm)

/-- `uw`, the unquantised weights (R281). -/
def unquantWeights (blk : Nat) (bm : BlockModeInfo) : List Nat := (weightElems blk bm).map (unquantWeight bm.ise)

/-- A scale factor of R285. -/
def weightScale (dim : Nat) : Nat := (1024 + dim / 2) / (dim - 1)

/-- A grid coordinate in sixteenths of a grid step (R284, R286). -/
def gridCoord (dim t g : Nat) : Nat := (weightScale dim * t * (g - 1) + 32) / 64

/-- A tap of factor `f` on the weight `k`: with factor 0 nothing is read (R289). -/
def weightTap (uw : List Nat) (k f : Nat) : Nat := if f = 0 then 0 else uw.getD k 0 * f

/-- The weight at the grid coordinate `(gx, gy)` for plane `p` (R284, R287, R288). -/
def infill (uw : List Nat) (gw planes gx gy p : Nat) : Nat :=
  let jx := gx / 16
  let fx := gx % 16
  let jy := gy / 16
  let fy := gy % 16
  let w11 := (fx * fy + 8) / 16
  let i00 := jy * gw + jx
  (weightTap uw (i00 * planes + p) (16 + w11 - fx - fy) + weightTap uw ((i00 + 1) * planes + p) (fx - w11)
    + weightTap uw ((i00 + gw) * planes + p) (fy - w11) + weightTap uw ((i00 + gw + 1) * planes + p) w11 + 8) / 16

/-- The texel weights of the texel `(tx, ty)` (R283, R284): the second one only for a dual-plane block. -/
def texelWeight (uw : List Nat) (bw bh gw gh : Nat) (dual : Bool) (tx ty : Nat) : TexelWeight :=
  let gx := gridCoord bw tx gw
  let gy := gridCoord bh ty gh
  { plane0 := infill uw gw (planesOf dual) gx gy 0
    plane1 := if dual then some (infill uw gw (planesOf dual) gx gy 1) else none }

end Sys2Proof.Machine
end

