-- ==== Sys2Proof/Machine/BlockMode.lean ====
section
/-! DEFINITION. `block_mode_parser` (`42_block_mode.md`): the parser, the writer, and the meanings of the 37 block-mode
rows, which are steps 1 and 2 of `DECODE` and the first whole-block checks of step 3 (`47_block_assembler.md` R300 to
R308). -/

namespace Sys2Proof.Machine

/-! ### Parsing (R160 to R166) -/

/-- `weight_ise(r, h)` (R166, `30_encoding.md` R80); `r` is never below 2 (log 15). -/
def weightIse (r : Nat) (h : Bool) : IseParams :=
  match r, h with
  | 2, false => ⟨.plainBit, 1⟩
  | 3, false => ⟨.trit, 0⟩
  | 4, false => ⟨.plainBit, 2⟩
  | 5, false => ⟨.quint, 0⟩
  | 6, false => ⟨.trit, 1⟩
  | _, false => ⟨.plainBit, 3⟩
  | 2, true => ⟨.quint, 1⟩
  | 3, true => ⟨.trit, 2⟩
  | 4, true => ⟨.plainBit, 4⟩
  | 5, true => ⟨.quint, 2⟩
  | 6, true => ⟨.trit, 3⟩
  | _, true => ⟨.plainBit, 5⟩

/-- The record of a normal block mode (R160). -/
def gridMode (w h r : Nat) (dual high : Bool) : BlockModeInfo :=
  { isError := false, isVoidExtent := false, isDualPlane := dual, gridW := w, gridH := h, ise := weightIse r high }

/-- The grid `(W, H)` of layouts 0 to 4 (R163). -/
def parseGridLow (m : Nat) : Nat × Nat :=
  let a := getBits m 5 6
  let b := getBits m 7 8
  match getBits m 2 3 with
  | 0 => (b + 4, a + 2)
  | 1 => (b + 8, a + 2)
  | 2 => (a + 2, b + 8)
  | _ => if getBit m 8 = 0 then (a + 2, getBit m 7 + 6) else (getBit m 7 + 2, a + 2)

/-- The grid `(W, H)` of layouts 5 to 9 (R164). -/
def parseGridHigh (m : Nat) : Nat × Nat :=
  let a := getBits m 5 6
  match getBits m 7 8 with
  | 0 => (12, a + 2)
  | 1 => (a + 2, 12)
  | 2 => (a + 6, getBits m 9 10 + 6)
  | _ => if getBit m 5 = 0 then (6, 10) else (10, 6)

/-- `parse_block_mode(m)` (R160). Where `isError` or `isVoidExtent` is set, R160 gives the other members no meaning; the
model's DESIGN CHOICE (log 21) is one plane, a 0x0 grid and PlainBit 0, those of `BlockModeInfo.empty`. -/
def parseBlockMode (m : Nat) : BlockModeInfo :=
  if getBits m 0 8 = 0x1FC then { BlockModeInfo.empty with isVoidExtent := true }
  else if (getBits m 0 1 = 0 ∧ getBits m 6 8 = 7) ∨ getBits m 0 3 = 0 then { BlockModeInfo.empty with isError := true }
  else if getBits m 0 1 ≠ 0 then
    gridMode (parseGridLow m).1 (parseGridLow m).2 (4 * getBit m 1 + 2 * getBit m 0 + getBit m 4)
      (isBitSet m 10) (isBitSet m 9)
  else if getBits m 7 8 = 2 then
    gridMode (parseGridHigh m).1 (parseGridHigh m).2 (4 * getBit m 3 + 2 * getBit m 2 + getBit m 4) false false
  else
    gridMode (parseGridHigh m).1 (parseGridHigh m).2 (4 * getBit m 3 + 2 * getBit m 2 + getBit m 4)
      (isBitSet m 10) (isBitSet m 9)

/-! ### Writing (R174 to R177) -/

/-- `(r, h)` by the range maximum of the weight parameters (R176). -/
def rangeCode (rangeMax : Nat) : Option (Nat × Bool) :=
  match rangeMax with
  | 1 => some (2, false)
  | 2 => some (3, false)
  | 3 => some (4, false)
  | 4 => some (5, false)
  | 5 => some (6, false)
  | 7 => some (7, false)
  | 9 => some (2, true)
  | 11 => some (3, true)
  | 15 => some (4, true)
  | 19 => some (5, true)
  | 23 => some (6, true)
  | 31 => some (7, true)
  | _ => none

/-- `lo ≤ x ≤ hi`. -/
def within (x lo hi : Nat) : Bool := decide (lo ≤ x) && decide (x ≤ hi)

/-- The layout that contains a grid, searched in the order 0 to 9 (R175). -/
def layoutOf (w h : Nat) : Option Nat :=
  if within w 4 7 && within h 2 5 then some 0
  else if within w 8 11 && within h 2 5 then some 1
  else if within w 2 5 && within h 8 11 then some 2
  else if within w 2 5 && within h 6 7 then some 3
  else if within w 2 3 && within h 2 5 then some 4
  else if w == 12 && within h 2 5 then some 5
  else if within w 2 5 && h == 12 then some 6
  else if w == 6 && h == 10 then some 7
  else if w == 10 && h == 6 then some 8
  else if within w 6 9 && within h 6 9 then some 9
  else none

/-- The bits of a block mode but `r`: layout constants and the bits of `a`, `b`, `D` and `H` (R177, `30_encoding.md`
R74). `q` is `r2 r1`. -/
def layoutBits (layout w h q : Nat) (dual high : Bool) : Nat :=
  let dh := dual.toNat * 2 ^ 10 + high.toNat * 2 ^ 9
  match layout with
  | 0 => dh + (w - 4) * 2 ^ 7 + (h - 2) * 2 ^ 5 + q
  | 1 => dh + (w - 8) * 2 ^ 7 + (h - 2) * 2 ^ 5 + 4 + q
  | 2 => dh + (h - 8) * 2 ^ 7 + (w - 2) * 2 ^ 5 + 8 + q
  | 3 => dh + (h - 6) * 2 ^ 7 + (w - 2) * 2 ^ 5 + 12 + q
  | 4 => dh + 2 ^ 8 + (w - 2) * 2 ^ 7 + (h - 2) * 2 ^ 5 + 12 + q
  | 5 => dh + (h - 2) * 2 ^ 5 + 4 * q
  | 6 => dh + 2 ^ 7 + (w - 2) * 2 ^ 5 + 4 * q
  | 7 => dh + 3 * 2 ^ 7 + 4 * q
  | 8 => dh + 3 * 2 ^ 7 + 2 ^ 5 + 4 * q
  | _ => (h - 6) * 2 ^ 9 + 2 ^ 8 + (w - 6) * 2 ^ 5 + 4 * q

/-- `write_block_mode(W, H, ise, dual)` (R174); none where a precondition fails. -/
def writeBlockMode (w h : Nat) (ise : IseParams) (dual : Bool) : Option Nat :=
  match rangeCode (iseRangeMax ise), layoutOf w h with
  | some (r, high), some layout =>
    if layout = 9 ∧ (dual = true ∨ high = true) then none
    else some (layoutBits layout w h (r / 2) dual high + r % 2 * 2 ^ 4)
  | _, _ => none

/-! ### Acting on a block mode -/

/-- The first whole-block checks of a normal block, in order (`47_block_assembler.md` R305 to R308), then the partition
and CEM fields come next. -/
def acceptMode (bm : BlockModeInfo) (s : State) : Result :=
  if 64 < weightCount bm then errorBlock .weightCount s
  else if weightBits bm < 24 ∨ 96 < weightBits bm then errorBlock .weightBits s
  else if blockW s.cfg < bm.gridW ∨ blockH s.cfg < bm.gridH then errorBlock .gridSize s
  else .next (latchMode bm s)

/-- A reserved block mode (`47_block_assembler.md` R301, `60_exceptions.md` R410). -/
def reservedMode (s : State) : Result := errorBlock .reservedMode s

/-- The channel of a void-extent block (`47_block_assembler.md` R303). -/
def voidChannel (srgb hdr : Bool) (c : Nat) : Nat :=
  if srgb then c / 256 else if hdr then f16ToF32 c else unorm16ToF32 c

/-- The extents are the all-ones sentinel (R302). -/
def extentsAllOnes (minS maxS minT maxT : BitVec 13) : Bool :=
  minS == 0x1FFF#13 && maxS == 0x1FFF#13 && minT == 0x1FFF#13 && maxT == 0x1FFF#13

/-- The extents are neither the sentinel nor strictly ordered (R302). -/
def extentsBad (minS maxS minT maxT : BitVec 13) : Bool :=
  !extentsAllOnes minS maxS minT maxT
    && (decide (maxS.toNat ≤ minS.toNat) || decide (maxT.toNat ≤ minT.toNat))

/-- `VOID_EXTENT` (`47_block_assembler.md` R302, R303). Bits 11:10 are ignored (`30_encoding.md` R82). -/
def execVoidExtent (d : Bool) (_rsv : BitVec 2) (minS maxS minT maxT : BitVec 13) (cr cg cb ca : BitVec 16)
    (s : State) : Result :=
  if cfgHdrMode s.cfg = false ∧ d = true then errorBlock .veHdrInLdr s
  else if extentsBad minS maxS minT maxT then errorBlock .veExtent s
  else if d = true ∧ (f16IsInfOrNan cr.toNat || f16IsInfOrNan cg.toNat || f16IsInfOrNan cb.toNat
      || f16IsInfOrNan ca.toNat) then errorBlock .veInfNan s
  else
    let ch := voidChannel (cfgSrgb s.cfg) d
    finish (List.replicate (texelCount s.cfg) ⟨ch cr.toNat, ch cg.toNat, ch cb.toNat, ch ca.toNat⟩) .none s

/-! ### The rows -/

/-- `RESERVED_LOW4_ZERO` (R162). -/
def execReservedLow4Zero (_x : BitVec 7) (s : State) : Result := reservedMode s

/-- `RESERVED_111_01` (R162). -/
def execReserved111_01 (_hi _lo : BitVec 2) (s : State) : Result := reservedMode s

/-- `RESERVED_111_10` (R162). -/
def execReserved111_10 (_hi _lo : BitVec 2) (s : State) : Result := reservedMode s

/-- `RESERVED_111_11_00` (R162). -/
def execReserved111_11_00 (_hi : BitVec 2) (s : State) : Result := reservedMode s

/-- `RESERVED_111_11_01` (R162). -/
def execReserved111_11_01 (_hi : BitVec 2) (s : State) : Result := reservedMode s

/-- `RESERVED_111_11_10` (R162). -/
def execReserved111_11_10 (_hi : BitVec 2) (s : State) : Result := reservedMode s

/-- `MODE_L0_R1`: layout 0, `r = 2 + r0` (R163). -/
def execModeL0R1 (d h : Bool) (b a : Nat) (r0 : Bool) (s : State) : Result :=
  acceptMode (gridMode (b + 4) (a + 2) (2 + r0.toNat) d h) s

/-- `MODE_L0_R2`: layout 0, `r = 4 + r0` (R163). -/
def execModeL0R2 (d h : Bool) (b a : Nat) (r0 : Bool) (s : State) : Result :=
  acceptMode (gridMode (b + 4) (a + 2) (4 + r0.toNat) d h) s

/-- `MODE_L0_R3`: layout 0, `r = 6 + r0` (R163). -/
def execModeL0R3 (d h : Bool) (b a : Nat) (r0 : Bool) (s : State) : Result :=
  acceptMode (gridMode (b + 4) (a + 2) (6 + r0.toNat) d h) s

/-- `MODE_L1_R1`: layout 1, `r = 2 + r0` (R163). -/
def execModeL1R1 (d h : Bool) (b a : Nat) (r0 : Bool) (s : State) : Result :=
  acceptMode (gridMode (b + 8) (a + 2) (2 + r0.toNat) d h) s

/-- `MODE_L1_R2`: layout 1, `r = 4 + r0` (R163). -/
def execModeL1R2 (d h : Bool) (b a : Nat) (r0 : Bool) (s : State) : Result :=
  acceptMode (gridMode (b + 8) (a + 2) (4 + r0.toNat) d h) s

/-- `MODE_L1_R3`: layout 1, `r = 6 + r0` (R163). -/
def execModeL1R3 (d h : Bool) (b a : Nat) (r0 : Bool) (s : State) : Result :=
  acceptMode (gridMode (b + 8) (a + 2) (6 + r0.toNat) d h) s

/-- `MODE_L2_R1`: layout 2, `r = 2 + r0` (R163). -/
def execModeL2R1 (d h : Bool) (b a : Nat) (r0 : Bool) (s : State) : Result :=
  acceptMode (gridMode (a + 2) (b + 8) (2 + r0.toNat) d h) s

/-- `MODE_L2_R2`: layout 2, `r = 4 + r0` (R163). -/
def execModeL2R2 (d h : Bool) (b a : Nat) (r0 : Bool) (s : State) : Result :=
  acceptMode (gridMode (a + 2) (b + 8) (4 + r0.toNat) d h) s

/-- `MODE_L2_R3`: layout 2, `r = 6 + r0` (R163). -/
def execModeL2R3 (d h : Bool) (b a : Nat) (r0 : Bool) (s : State) : Result :=
  acceptMode (gridMode (a + 2) (b + 8) (6 + r0.toNat) d h) s

/-- `MODE_L3_R1`: layout 3, `r = 2 + r0` (R163). -/
def execModeL3R1 (d h : Bool) (b a : Nat) (r0 : Bool) (s : State) : Result :=
  acceptMode (gridMode (a + 2) (b + 6) (2 + r0.toNat) d h) s

/-- `MODE_L3_R2`: layout 3, `r = 4 + r0` (R163). -/
def execModeL3R2 (d h : Bool) (b a : Nat) (r0 : Bool) (s : State) : Result :=
  acceptMode (gridMode (a + 2) (b + 6) (4 + r0.toNat) d h) s

/-- `MODE_L3_R3`: layout 3, `r = 6 + r0` (R163). -/
def execModeL3R3 (d h : Bool) (b a : Nat) (r0 : Bool) (s : State) : Result :=
  acceptMode (gridMode (a + 2) (b + 6) (6 + r0.toNat) d h) s

/-- `MODE_L4_R1`: layout 4, `r = 2 + r0` (R163). -/
def execModeL4R1 (d h : Bool) (b a : Nat) (r0 : Bool) (s : State) : Result :=
  acceptMode (gridMode (b + 2) (a + 2) (2 + r0.toNat) d h) s

/-- `MODE_L4_R2`: layout 4, `r = 4 + r0` (R163). -/
def execModeL4R2 (d h : Bool) (b a : Nat) (r0 : Bool) (s : State) : Result :=
  acceptMode (gridMode (b + 2) (a + 2) (4 + r0.toNat) d h) s

/-- `MODE_L4_R3`: layout 4, `r = 6 + r0` (R163). -/
def execModeL4R3 (d h : Bool) (b a : Nat) (r0 : Bool) (s : State) : Result :=
  acceptMode (gridMode (b + 2) (a + 2) (6 + r0.toNat) d h) s

/-- `MODE_L5_R1`: layout 5, `r = 2 + r0` (R164). -/
def execModeL5R1 (d h : Bool) (a : Nat) (r0 : Bool) (s : State) : Result :=
  acceptMode (gridMode 12 (a + 2) (2 + r0.toNat) d h) s

/-- `MODE_L5_R2`: layout 5, `r = 4 + r0` (R164). -/
def execModeL5R2 (d h : Bool) (a : Nat) (r0 : Bool) (s : State) : Result :=
  acceptMode (gridMode 12 (a + 2) (4 + r0.toNat) d h) s

/-- `MODE_L5_R3`: layout 5, `r = 6 + r0` (R164). -/
def execModeL5R3 (d h : Bool) (a : Nat) (r0 : Bool) (s : State) : Result :=
  acceptMode (gridMode 12 (a + 2) (6 + r0.toNat) d h) s

/-- `MODE_L6_R1`: layout 6, `r = 2 + r0` (R164). -/
def execModeL6R1 (d h : Bool) (a : Nat) (r0 : Bool) (s : State) : Result :=
  acceptMode (gridMode (a + 2) 12 (2 + r0.toNat) d h) s

/-- `MODE_L6_R2`: layout 6, `r = 4 + r0` (R164). -/
def execModeL6R2 (d h : Bool) (a : Nat) (r0 : Bool) (s : State) : Result :=
  acceptMode (gridMode (a + 2) 12 (4 + r0.toNat) d h) s

/-- `MODE_L6_R3`: layout 6, `r = 6 + r0` (R164). -/
def execModeL6R3 (d h : Bool) (a : Nat) (r0 : Bool) (s : State) : Result :=
  acceptMode (gridMode (a + 2) 12 (6 + r0.toNat) d h) s

/-- `MODE_L7_R1`: layout 7, `r = 2 + r0` (R164). -/
def execModeL7R1 (d h r0 : Bool) (s : State) : Result :=
  acceptMode (gridMode 6 10 (2 + r0.toNat) d h) s

/-- `MODE_L7_R2`: layout 7, `r = 4 + r0` (R164). -/
def execModeL7R2 (d h r0 : Bool) (s : State) : Result :=
  acceptMode (gridMode 6 10 (4 + r0.toNat) d h) s

/-- `MODE_L7_R3`: layout 7, `r = 6 + r0` (R164). -/
def execModeL7R3 (d h r0 : Bool) (s : State) : Result :=
  acceptMode (gridMode 6 10 (6 + r0.toNat) d h) s

/-- `MODE_L8_R1`: layout 8, `r = 2 + r0` (R164). -/
def execModeL8R1 (d h r0 : Bool) (s : State) : Result :=
  acceptMode (gridMode 10 6 (2 + r0.toNat) d h) s

/-- `MODE_L8_R2`: layout 8, `r = 4 + r0` (R164). -/
def execModeL8R2 (d h r0 : Bool) (s : State) : Result :=
  acceptMode (gridMode 10 6 (4 + r0.toNat) d h) s

/-- `MODE_L8_R3`: layout 8, `r = 6 + r0` (R164). -/
def execModeL8R3 (d h r0 : Bool) (s : State) : Result :=
  acceptMode (gridMode 10 6 (6 + r0.toNat) d h) s

/-- `MODE_L9_R1`: layout 9, `r = 2 + r0` (R164, R165). -/
def execModeL9R1 (b a : Nat) (r0 : Bool) (s : State) : Result :=
  acceptMode (gridMode (a + 6) (b + 6) (2 + r0.toNat) false false) s

/-- `MODE_L9_R2`: layout 9, `r = 4 + r0` (R164, R165). -/
def execModeL9R2 (b a : Nat) (r0 : Bool) (s : State) : Result :=
  acceptMode (gridMode (a + 6) (b + 6) (4 + r0.toNat) false false) s

/-- `MODE_L9_R3`: layout 9, `r = 6 + r0` (R164, R165). -/
def execModeL9R3 (b a : Nat) (r0 : Bool) (s : State) : Result :=
  acceptMode (gridMode (a + 6) (b + 6) (6 + r0.toNat) false false) s

end Sys2Proof.Machine
end

