-- ==== Sys2Proof/Machine/Endpoints.lean ====
section
/-! DEFINITION. `color_endpoint_unquantizer` (`43_color_endpoints_ldr.md`): the colour endpoint modes of the partitions,
and the ten LDR formulas. A formula takes the unquantised values `v0, v1, ...` of its partition. -/

namespace Sys2Proof.Machine

/-- `cem_num_values(cem)` (R190). -/
def cemNumValues (cem : Nat) : Nat := 2 * (cem / 4 + 1)

/-- `ncev`, the number of colour endpoint values (R190). -/
def cemsValueCount (cems : List Nat) : Nat := (cems.map cemNumValues).sum

/-! ### Finding the CEMs (R192 to R194) -/

/-- Bit `i` of the string `S` of an independent-CEM block (R194, `30_encoding.md` R77). -/
def cemStringBit (blk extra i : Nat) : Nat := getBit blk (if i < 4 then 25 + i else extra + i - 4)

/-- The CEM of partition `p` of an independent-CEM block (R192, R194). -/
def independentCem (blk n sel extra p : Nat) : Nat :=
  4 * (sel - (1 - getBit blk (25 + p))) + 2 * cemStringBit blk extra (n + 2 * p + 1) + cemStringBit blk extra (n + 2 * p)

/-- `decode_cems(blk, n, extra)` (R192). -/
def decodeCems (blk n extra : Nat) : List Nat :=
  if n = 1 then [getBits blk 13 16]
  else if getBits blk 23 24 = 0 then List.replicate n (getBits blk 25 28)
  else (List.range n).map (independentCem blk n (getBits blk 23 24) extra)

/-! ### Shared steps of the formulas -/

/-- A pair of an LDR mode from channels that are in 0..255 already. -/
def ldrPair (e0 e1 : Rgba) : EndpointPair := { e0 := e0, e1 := e1, isHdr := false }

/-- `clamp8` of one channel (R197). -/
def clamp8 (x : Int) : Nat := (max 0 (min x 255)).toNat

/-- `clamp8` of four channels (R197). -/
def clamp8Rgba (r g b a : Int) : Rgba := ⟨clamp8 r, clamp8 g, clamp8 b, clamp8 a⟩

/-- `bit_transfer_signed(a, b)`: the offset `a'` (R198). -/
def transferOffset (a : Nat) : Int :=
  let t := a / 2 % 64
  if 32 ≤ t then (t : Int) - 64 else t

/-- `bit_transfer_signed(a, b)`: the base `b'` (R198). -/
def transferBase (a b : Nat) : Nat := b / 2 ||| a &&& 0x80

/-- `blue_contract` on channels that are not negative (R199). -/
def blueContract (r g b a : Nat) : Rgba := ⟨(r + b) / 2, (g + b) / 2, b, a⟩

/-- `clamp8(blue_contract(r, g, b, a))` with the floor reading of `>> 1` (R197, R199). -/
def blueContractClamped (r g b a : Int) : Rgba := clamp8Rgba ((r + b) / 2) ((g + b) / 2) b a

/-! ### The LDR formulas (R200 to R209) -/

/-- CEM 0, LDR luminance direct (R200). -/
def ldrLumDirect (v : List Nat) : EndpointPair :=
  let v0 := v.getD 0 0
  let v1 := v.getD 1 0
  ldrPair ⟨v0, v0, v0, 0xFF⟩ ⟨v1, v1, v1, 0xFF⟩

/-- CEM 1, LDR luminance base + offset (R201). -/
def ldrLumBaseOffset (v : List Nat) : EndpointPair :=
  let v0 := v.getD 0 0
  let v1 := v.getD 1 0
  let l0 := v0 / 4 ||| v1 &&& 0xC0
  let l1 := min (l0 + v1 % 64) 0xFF
  ldrPair ⟨l0, l0, l0, 0xFF⟩ ⟨l1, l1, l1, 0xFF⟩

/-- CEM 4, LDR luminance + alpha direct (R202). -/
def ldrLumaDirect (v : List Nat) : EndpointPair :=
  let v0 := v.getD 0 0
  let v1 := v.getD 1 0
  ldrPair ⟨v0, v0, v0, v.getD 2 0⟩ ⟨v1, v1, v1, v.getD 3 0⟩

/-- CEM 5, LDR luminance + alpha base + offset (R203). -/
def ldrLumaBaseOffset (v : List Nat) : EndpointPair :=
  let d := transferOffset (v.getD 1 0)
  let l : Int := transferBase (v.getD 1 0) (v.getD 0 0)
  let da := transferOffset (v.getD 3 0)
  let a : Int := transferBase (v.getD 3 0) (v.getD 2 0)
  ldrPair (clamp8Rgba l l l a) (clamp8Rgba (l + d) (l + d) (l + d) (a + da))

/-- CEM 6, LDR RGB base + scale (R204). -/
def ldrRgbBaseScale (v : List Nat) : EndpointPair :=
  let v0 := v.getD 0 0
  let v1 := v.getD 1 0
  let v2 := v.getD 2 0
  let v3 := v.getD 3 0
  ldrPair ⟨v0 * v3 / 256, v1 * v3 / 256, v2 * v3 / 256, 0xFF⟩ ⟨v0, v1, v2, 0xFF⟩

/-- The direct RGB formula with the alpha values given: the tie rule of R205, shared by R208. -/
def ldrDirect (v : List Nat) (a0 a1 : Nat) : EndpointPair :=
  let v0 := v.getD 0 0
  let v1 := v.getD 1 0
  let v2 := v.getD 2 0
  let v3 := v.getD 3 0
  let v4 := v.getD 4 0
  let v5 := v.getD 5 0
  if v0 + v2 + v4 ≤ v1 + v3 + v5 then ldrPair ⟨v0, v2, v4, a0⟩ ⟨v1, v3, v5, a1⟩
  else ldrPair (blueContract v1 v3 v5 a1) (blueContract v0 v2 v4 a0)

/-- CEM 8, LDR RGB direct (R205). -/
def ldrRgbDirect (v : List Nat) : EndpointPair := ldrDirect v 0xFF 0xFF

/-- The base + offset RGB formula with the alpha base and offset given: the sign test of R206, shared by R209. -/
def ldrBaseOffset (v : List Nat) (a da : Int) : EndpointPair :=
  let dr := transferOffset (v.getD 1 0)
  let dg := transferOffset (v.getD 3 0)
  let db := transferOffset (v.getD 5 0)
  let r : Int := transferBase (v.getD 1 0) (v.getD 0 0)
  let g : Int := transferBase (v.getD 3 0) (v.getD 2 0)
  let b : Int := transferBase (v.getD 5 0) (v.getD 4 0)
  if 0 ≤ dr + dg + db then ldrPair (clamp8Rgba r g b a) (clamp8Rgba (r + dr) (g + dg) (b + db) (a + da))
  else ldrPair (blueContractClamped (r + dr) (g + dg) (b + db) (a + da)) (blueContractClamped r g b a)

/-- CEM 9, LDR RGB base + offset (R206). -/
def ldrRgbBaseOffset (v : List Nat) : EndpointPair := ldrBaseOffset v 0xFF 0

/-- CEM 10, LDR RGB base + scale plus two alpha (R207). -/
def ldrRgbBaseScale2a (v : List Nat) : EndpointPair :=
  let v0 := v.getD 0 0
  let v1 := v.getD 1 0
  let v2 := v.getD 2 0
  let v3 := v.getD 3 0
  ldrPair ⟨v0 * v3 / 256, v1 * v3 / 256, v2 * v3 / 256, v.getD 4 0⟩ ⟨v0, v1, v2, v.getD 5 0⟩

/-- CEM 12, LDR RGBA direct (R208). -/
def ldrRgbaDirect (v : List Nat) : EndpointPair := ldrDirect v (v.getD 6 0) (v.getD 7 0)

/-- CEM 13, LDR RGBA base + offset (R209); the alpha offset takes no part in the sign test. -/
def ldrRgbaBaseOffset (v : List Nat) : EndpointPair :=
  ldrBaseOffset v (transferBase (v.getD 7 0) (v.getD 6 0) : Nat) (transferOffset (v.getD 7 0))

end Sys2Proof.Machine
end

