-- ==== Sys2Proof/Machine/EndpointsHdr.lean ====
section
/-! DEFINITION. The six HDR endpoint formulas (`44_color_endpoints_hdr.md`), and the choice of a formula by CEM. -/

namespace Sys2Proof.Machine

/-- `clamp12` of one channel. -/
def clamp12 (x : Int) : Nat := (max 0 (min x 0xFFF)).toNat

/-- A pair of an HDR mode. -/
def hdrPair (e0 e1 : Rgba) : EndpointPair := { e0 := e0, e1 := e1, isHdr := true }

/-! ### HDR luminance (R230, R231) -/

/-- CEM 2, HDR luminance, large range (R230). -/
def hdrLumLarge (v : List Nat) : EndpointPair :=
  let v0 := v.getD 0 0
  let v1 := v.getD 1 0
  let y0 := if v0 ≤ v1 then v0 * 16 else v1 * 16 + 8
  let y1 := if v0 ≤ v1 then v1 * 16 else v0 * 16 - 8
  hdrPair ⟨y0, y0, y0, 0x780⟩ ⟨y1, y1, y1, 0x780⟩

/-- CEM 3, HDR luminance, small range (R231). -/
def hdrLumSmall (v : List Nat) : EndpointPair :=
  let v0 := v.getD 0 0
  let v1 := v.getD 1 0
  let y0 := if getBit v0 7 = 1 then getBits v1 5 7 * 2 ^ 9 + getBits v0 0 6 * 4
    else getBits v1 4 7 * 2 ^ 8 + getBits v0 0 6 * 2
  let d := if getBit v0 7 = 1 then getBits v1 0 4 * 4 else getBits v1 0 3 * 2
  let y1 := min (y0 + d) 0xFFF
  hdrPair ⟨y0, y0, y0, 0x780⟩ ⟨y1, y1, y1, 0x780⟩

/-! ### Scattered bits -/

/-- A field of CEM 7 (R234) or CEM 11 (R240). -/
inductive HdrField where
  | r
  | g
  | b
  | s
  | a
  | c
  | b0
  | b1
  | d0
  | d1
deriving DecidableEq, Repr

/-- A field after its scattered bits are ORed in (R234, R240): bit `xs[i]` goes to the field and position `places[i]`. -/
def gatherField (f : HdrField) (places : List (HdrField × Nat)) (xs : List Nat) (start : Nat) : Nat :=
  (places.zip xs).foldl (fun acc e => if e.1.1 = f then acc ||| e.2 * 2 ^ e.1.2 else acc) start

/-! ### CEM 7 (R232 to R236) -/

/-- `(majcomp, mode)` of R233. -/
def cem7Mode (v0 v1 v2 : Nat) : Nat × Nat :=
  let m10 := 2 * getBit v2 7 + getBit v1 7
  let m23 := getBits v0 6 7
  if m10 ≠ 3 then (m10, m23) else if m23 ≠ 3 then (m23, 4) else (0, 5)

/-- Where the bits `x0` to `x6` go (R234). -/
def cem7Places (mode : Nat) : List (HdrField × Nat) :=
  match mode with
  | 0 => [(.r, 9), (.r, 8), (.r, 7), (.r, 10), (.r, 6), (.s, 6), (.s, 5)]
  | 1 => [(.r, 8), (.g, 5), (.r, 7), (.b, 5), (.r, 6), (.r, 10), (.r, 9)]
  | 2 => [(.r, 9), (.r, 8), (.r, 7), (.r, 6), (.s, 7), (.s, 6), (.s, 5)]
  | 3 => [(.r, 8), (.g, 5), (.r, 7), (.b, 5), (.r, 6), (.s, 6), (.s, 5)]
  | 4 => [(.g, 6), (.g, 5), (.b, 6), (.b, 5), (.r, 6), (.r, 7), (.s, 5)]
  | _ => [(.g, 6), (.g, 5), (.b, 6), (.b, 5), (.r, 6), (.s, 6), (.s, 5)]

/-- The "shift" column of R234. -/
def cem7Shift (mode : Nat) : Nat :=
  match mode with
  | 0 => 1
  | 1 => 1
  | 2 => 2
  | 3 => 3
  | 4 => 4
  | _ => 5

/-- The result of R236 from the red, green, blue and scale of R235. -/
def cem7Result (majcomp : Nat) (red green blue scale : Int) : EndpointPair :=
  let r := if majcomp = 1 then green else if majcomp = 2 then blue else red
  let g := if majcomp = 1 then red else green
  let b := if majcomp = 2 then red else blue
  hdrPair ⟨clamp12 (r - scale), clamp12 (g - scale), clamp12 (b - scale), 0x780⟩
    ⟨clamp12 r, clamp12 g, clamp12 b, 0x780⟩

/-- CEM 7, HDR RGB base + scale (R232 to R236). -/
def hdrRgbBaseScale (v : List Nat) : EndpointPair :=
  let v0 := v.getD 0 0
  let v1 := v.getD 1 0
  let v2 := v.getD 2 0
  let v3 := v.getD 3 0
  let majcomp := (cem7Mode v0 v1 v2).1
  let mode := (cem7Mode v0 v1 v2).2
  let xs := [getBit v1 6, getBit v1 5, getBit v2 6, getBit v2 5, getBit v3 7, getBit v3 6, getBit v3 5]
  let places := cem7Places mode
  let red : Int := gatherField .r places xs (getBits v0 0 5) * 2 ^ cem7Shift mode
  let green : Int := gatherField .g places xs (getBits v1 0 4) * 2 ^ cem7Shift mode
  let blue : Int := gatherField .b places xs (getBits v2 0 4) * 2 ^ cem7Shift mode
  let scale : Int := gatherField .s places xs (getBits v3 0 4) * 2 ^ cem7Shift mode
  if mode = 5 then cem7Result majcomp red green blue scale
  else cem7Result majcomp red (red - green) (red - blue) scale

/-! ### CEM 11 (R238 to R243) -/

/-- Where the bits `x0` to `x5` go (R240). -/
def cem11Places (mode : Nat) : List (HdrField × Nat) :=
  match mode with
  | 0 => [(.b0, 6), (.b1, 6), (.d0, 6), (.d1, 6), (.d0, 5), (.d1, 5)]
  | 1 => [(.b0, 6), (.b1, 6), (.b0, 7), (.b1, 7), (.d0, 5), (.d1, 5)]
  | 2 => [(.a, 9), (.c, 6), (.d0, 6), (.d1, 6), (.d0, 5), (.d1, 5)]
  | 3 => [(.b0, 6), (.b1, 6), (.a, 9), (.c, 6), (.d0, 5), (.d1, 5)]
  | 4 => [(.b0, 6), (.b1, 6), (.b0, 7), (.b1, 7), (.a, 9), (.a, 10)]
  | 5 => [(.a, 9), (.a, 10), (.c, 7), (.c, 6), (.d0, 5), (.d1, 5)]
  | 6 => [(.b0, 6), (.b1, 6), (.a, 11), (.c, 6), (.a, 9), (.a, 10)]
  | _ => [(.a, 9), (.a, 10), (.a, 11), (.c, 6), (.d0, 5), (.d1, 5)]

/-- The "d bits" column of R240. -/
def cem11DBits (mode : Nat) : Nat :=
  match mode with
  | 0 => 7
  | 1 => 6
  | 2 => 7
  | 3 => 6
  | 4 => 5
  | 5 => 6
  | 6 => 5
  | _ => 6

/-- The "shift" column of R240. -/
def cem11Shift (mode : Nat) : Nat :=
  match mode with
  | 0 => 3
  | 1 => 3
  | 2 => 2
  | 3 => 2
  | 4 => 1
  | 5 => 1
  | 6 => 0
  | _ => 0

/-- `sext(d, nd)` (R241). -/
def signExtend (d nd : Nat) : Int := if getBit d (nd - 1) = 1 then (d : Int) - 2 ^ nd else d

/-- The swap of R243 on one endpoint. -/
def swapMajor (major : Nat) (e : Rgba) : Rgba :=
  if major = 1 then { e with r := e.g, g := e.r }
  else if major = 2 then { e with r := e.b, b := e.r }
  else e

/-- The RGB part of CEM 11, CEM 14 and CEM 15 with the two alphas given (R238 to R243). -/
def hdrDirect (v : List Nat) (a0 a1 : Nat) : EndpointPair :=
  let v0 := v.getD 0 0
  let v1 := v.getD 1 0
  let v2 := v.getD 2 0
  let v3 := v.getD 3 0
  let v4 := v.getD 4 0
  let v5 := v.getD 5 0
  let major := 2 * getBit v5 7 + getBit v4 7
  if major = 3 then
    hdrPair ⟨v0 * 16, v2 * 16, getBits v4 0 6 * 32, a0⟩ ⟨v1 * 16, v3 * 16, getBits v5 0 6 * 32, a1⟩
  else
    let mode := 4 * getBit v3 7 + 2 * getBit v2 7 + getBit v1 7
    let xs := [getBit v2 6, getBit v3 6, getBit v4 6, getBit v5 6, getBit v4 5, getBit v5 5]
    let places := cem11Places mode
    let scale : Int := 2 ^ cem11Shift mode
    let a : Int := gatherField .a places xs (256 * getBit v1 6 + v0) * scale
    let c : Int := gatherField .c places xs (getBits v1 0 5) * scale
    let b0 : Int := gatherField .b0 places xs (getBits v2 0 5) * scale
    let b1 : Int := gatherField .b1 places xs (getBits v3 0 5) * scale
    let d0 : Int := signExtend (gatherField .d0 places xs (getBits v4 0 4)) (cem11DBits mode) * scale
    let d1 : Int := signExtend (gatherField .d1 places xs (getBits v5 0 4)) (cem11DBits mode) * scale
    hdrPair
      (swapMajor major ⟨clamp12 (a - c), clamp12 (a - b0 - c - d0), clamp12 (a - b1 - c - d1), a0⟩)
      (swapMajor major ⟨clamp12 a, clamp12 (a - b0), clamp12 (a - b1), a1⟩)

/-- CEM 11, HDR RGB direct (R238 to R243). -/
def hdrRgbDirect (v : List Nat) : EndpointPair := hdrDirect v 0x780 0x780

/-- CEM 14, HDR RGB direct with LDR alpha (R245). -/
def hdrRgbLdrAlpha (v : List Nat) : EndpointPair := hdrDirect v (v.getD 6 0) (v.getD 7 0)

/-! ### CEM 15 (R246) -/

/-- The two alphas of R246. -/
def hdrAlpha (v6 v7 : Nat) : Nat × Nat :=
  let mode := 2 * getBit v7 7 + getBit v6 7
  let x6 := getBits v6 0 6
  let x7 := getBits v7 0 6
  if mode = 3 then (x6 * 32, x7 * 32)
  else
    let y6 := (x6 ||| x7 * 2 ^ (mode + 1) &&& 0x780) * 2 ^ (4 - mode)
    let sign := 0x20 / 2 ^ mode
    let y7 : Int := (((x7 &&& 0x3F / 2 ^ mode) ^^^ sign : Nat) : Int) - sign
    (y6, clamp12 (y7 * 2 ^ (4 - mode) + y6))

/-- CEM 15, HDR RGB direct with HDR alpha (R246). -/
def hdrRgbHdrAlpha (v : List Nat) : EndpointPair :=
  let alpha := hdrAlpha (v.getD 6 0) (v.getD 7 0)
  hdrDirect v alpha.1 alpha.2

/-! ### The choice of a formula -/

/-- The formula of a CEM (R200 to R209, R230 to R246). -/
def endpointFormula (cem : Nat) : List Nat → EndpointPair :=
  match cem with
  | 0 => ldrLumDirect
  | 1 => ldrLumBaseOffset
  | 2 => hdrLumLarge
  | 3 => hdrLumSmall
  | 4 => ldrLumaDirect
  | 5 => ldrLumaBaseOffset
  | 6 => ldrRgbBaseScale
  | 7 => hdrRgbBaseScale
  | 8 => ldrRgbDirect
  | 9 => ldrRgbBaseOffset
  | 10 => ldrRgbBaseScale2a
  | 11 => hdrRgbDirect
  | 12 => ldrRgbaDirect
  | 13 => ldrRgbaBaseOffset
  | 14 => hdrRgbLdrAlpha
  | _ => hdrRgbHdrAlpha

/-- The dealing loop of `43_color_endpoints_ldr.md` R196: each partition takes its values in order. -/
def dealEndpoints : List (Nat × (List Nat → EndpointPair)) → List Nat → List EndpointPair
  | [], _ => []
  | (cem, formula) :: rest, cv =>
    formula (cv.take (cemNumValues cem)) :: dealEndpoints rest (cv.drop (cemNumValues cem))

end Sys2Proof.Machine
end

