-- ==== Sys2Proof/Machine/Partition.lean ====
section
/-! DEFINITION. `partition_hash_unit` (`45_partition_hash.md`). -/

namespace Sys2Proof.Machine

/-- `hash52(p)`, modulo 2^32 (R260). -/
def hash52 (p : BitVec 32) : BitVec 32 :=
  let p := p ^^^ (p >>> 15)
  let p := p - (p <<< 17)
  let p := p + (p <<< 7)
  let p := p + (p <<< 4)
  let p := p ^^^ (p >>> 5)
  let p := p + (p <<< 16)
  let p := p ^^^ (p >>> 7)
  let p := p ^^^ (p >>> 3)
  let p := p ^^^ (p <<< 6)
  p ^^^ (p >>> 17)

/-- The hashed seed of R262. -/
def partitionSeed (seedIn n : Nat) : Nat := seedIn + 1024 * (n - 1)

/-- `rnum` of R262. -/
def partitionRnum (seedIn n : Nat) : Nat := (hash52 (BitVec.ofNat 32 (partitionSeed seedIn n))).toNat

/-- The sub-seed at bit `lo` of `rnum`, squared (R264). -/
def subSeed (rnum lo : Nat) : Nat := getBits rnum lo (lo + 3) * getBits rnum lo (lo + 3)

/-- The sub-seed `s12`, squared (R264): bits 3..2 are `rnum[1:0]`, bits 1..0 are `rnum[31:30]`. -/
def subSeed12 (rnum : Nat) : Nat :=
  let s := getBits rnum 0 1 * 4 + getBits rnum 30 31
  s * s

/-- `shA` of R265. -/
def partitionShA (seed : Nat) : Nat := if getBit seed 1 = 1 then 4 else 5

/-- `shB` of R265. -/
def partitionShB (n : Nat) : Nat := if n = 3 then 6 else 5

/-- `sh1` of R265. -/
def partitionSh1 (seed n : Nat) : Nat := if getBit seed 0 = 1 then partitionShA seed else partitionShB n

/-- `sh2` of R265. -/
def partitionSh2 (seed n : Nat) : Nat := if getBit seed 0 = 1 then partitionShB n else partitionShA seed

/-- `sh3` of R265. -/
def partitionSh3 (seed n : Nat) : Nat := if getBit seed 4 = 1 then partitionSh1 seed n else partitionSh2 seed n

/-- One score (R266). -/
def partitionScore (sx sy sz x y z offset : Nat) : Nat := (sx * x + sy * y + sz * z + offset) % 64

/-- The selection of R267: the index of the largest score, ties to the lower one. -/
def selectPartition (a b c d : Nat) : Nat :=
  if b ≤ a ∧ c ≤ a ∧ d ≤ a then 0
  else if c ≤ b ∧ d ≤ b then 1
  else if d ≤ c then 2
  else 3

/-- `partition_of` on the effective coordinates (R264 to R267). -/
def partitionAt (seedIn x y z n : Nat) : Nat :=
  let seed := partitionSeed seedIn n
  let rnum := partitionRnum seedIn n
  let d1 := 2 ^ partitionSh1 seed n
  let d2 := 2 ^ partitionSh2 seed n
  let d3 := 2 ^ partitionSh3 seed n
  let a := partitionScore (subSeed rnum 0 / d1) (subSeed rnum 4 / d2) (subSeed rnum 26 / d3) x y z (rnum / 2 ^ 14)
  let b := partitionScore (subSeed rnum 8 / d1) (subSeed rnum 12 / d2) (subSeed12 rnum / d3) x y z (rnum / 2 ^ 10)
  let c := if 3 ≤ n then
      partitionScore (subSeed rnum 16 / d1) (subSeed rnum 20 / d2) (subSeed rnum 18 / d3) x y z (rnum / 2 ^ 6)
    else 0
  let d := if 4 ≤ n then
      partitionScore (subSeed rnum 24 / d1) (subSeed rnum 28 / d2) (subSeed rnum 22 / d3) x y z (rnum / 2 ^ 2)
    else 0
  selectPartition a b c d

/-- `partition_of(seedIn, x, y, z, n, small)` (R261, R262): a small block doubles the coordinates. -/
def partitionOf (seedIn x y z n : Nat) (small : Bool) : Nat :=
  if small then partitionAt seedIn (2 * x) (2 * y) (2 * z) n else partitionAt seedIn x y z n

/-- `small`: fewer than 31 texels (R263). -/
def smallBlock (bw bh : Nat) : Bool := decide (bw * bh < 31)

end Sys2Proof.Machine
end

