-- ==== Sys2Proof/Machine/Decoder.lean ====
section
/-! DEFINITION. Step 3 of `DECODE`, a normal block (`47_block_assembler.md` R305 to R328), from its partition and CEM
fields on. -/

namespace Sys2Proof.Machine

/-- The values of `10_state.md` R38 that a normal block gives. They live inside one step of the command; what depends
on a check is not read before the check has passed. -/
structure NormalValues where
  /-- the number of partitions -/
  nparts : Nat
  /-- `nwb` -/
  nwb : Nat
  /-- `ncb`; may be negative (R310) -/
  ncb : Int
  /-- the first extra-CEM bit position -/
  extra : Nat
  /-- the CEM of each partition -/
  cem : List Nat
  /-- `ncev` -/
  ncev : Nat
  /-- the colour component selector, none for a single-plane block (R316) -/
  ccs : Option Nat
  /-- the seed, unused by one partition (R317) -/
  seed : Nat
deriving DecidableEq, Repr

/-- The values of a normal block (R305, R310, R316, R317; `30_encoding.md` R78) from its block mode, its number of
partitions, whether its CEM is a single one, its CEMs and its bits. -/
def normalValues (bm : BlockModeInfo) (n : Nat) (single : Bool) (cems : List Nat) (blk : Nat) : NormalValues :=
  { nparts := n
    nwb := weightBits bm
    ncb := colourBits n single bm.isDualPlane (weightBits bm)
    extra := extraPos n single (weightBits bm)
    cem := cems
    ncev := cemsValueCount cems
    ccs := if bm.isDualPlane then
        some (getBits blk (extraPos n single (weightBits bm) - 2) (extraPos n single (weightBits bm) - 1))
      else none
    seed := getBits blk 13 22 }

/-- The colour cursor (R312). -/
def colourCursor (n length : Nat) : Cursor := { start := colourStart n, length := length, forward := true, ndx := 0 }

/-- `cv`, the unquantised colour values (R313). -/
def colourValues (blk n ncb ncev : Nat) : List Nat :=
  (decodeIse blk (colourCursor n ncb) (colourIseParams ncb ncev) ncev).map (unquantColor (colourIseParams ncb ncev))

/-- `ep`, the endpoint pairs of all partitions (R314), by the given formulas. -/
def endpointPairs (nv : NormalValues) (formulas : List (List Nat → EndpointPair)) (blk : Nat) : List EndpointPair :=
  dealEndpoints (nv.cem.zip formulas) (colourValues blk nv.nparts nv.ncb.toNat nv.ncev)

/-- The partition of a texel (R318); `z` is 0 (`45_partition_hash.md` R268). -/
def texelPartition (nv : NormalValues) (cfg : BitVec 6) (tx ty : Nat) : Nat :=
  if nv.nparts = 1 then 0
  else partitionOf nv.seed tx ty 0 nv.nparts (smallBlock (blockW cfg) (blockH cfg))

/-- A texel is in error: LDR mode and an HDR mode in its partition (R319). -/
def texelFails (nv : NormalValues) (cfg : BitVec 6) (tx ty : Nat) : Bool :=
  !cfgHdrMode cfg && cemIsHdr (nv.cem.getD (texelPartition nv cfg tx ty) 0)

/-- The texel at `(tx, ty)` (R318). -/
def normalTexel (nv : NormalValues) (eps : List EndpointPair) (uw : List Nat) (bm : BlockModeInfo) (cfg : BitVec 6)
    (tx ty : Nat) : Rgba :=
  if texelFails nv cfg tx ty then errorColour (cfgSrgb cfg)
  else
    let p := texelPartition nv cfg tx ty
    blendTexel (cfgSrgb cfg) (eps.getD p ⟨⟨0, 0, 0, 0⟩, ⟨0, 0, 0, 0⟩, false⟩)
      (texelWeight uw (blockW cfg) (blockH cfg) bm.gridW bm.gridH bm.isDualPlane tx ty) nv.ccs (nv.cem.getD p 0)

/-- The texel coordinates of a footprint in index order `i = ty * BW + tx` (R318, `46_weight_interpolator.md` R283). -/
def texelCoords (bw bh : Nat) : List (Nat × Nat) :=
  (List.range bh).flatMap (fun ty => (List.range bw).map (fun tx => (tx, ty)))

/-- The texels of a normal block (R318). -/
def normalTexels (nv : NormalValues) (formulas : List (List Nat → EndpointPair)) (blk : Nat) (bm : BlockModeInfo)
    (cfg : BitVec 6) : List Rgba :=
  let eps := endpointPairs nv formulas blk
  let uw := unquantWeights blk bm
  (texelCoords (blockW cfg) (blockH cfg)).map (fun t => normalTexel nv eps uw bm cfg t.1 t.2)

/-- The cause of a normal block that passed its checks (R318, R319). -/
def normalCause (nv : NormalValues) (cfg : BitVec 6) : Cause :=
  if (texelCoords (blockW cfg) (blockH cfg)).any (fun t => texelFails nv cfg t.1 t.2) then .hdrCemInLdr else .none

/-- The rest of a normal block: the last whole-block checks (R309 to R311), then the texels (R312 to R328). -/
def assembleBlock (nv : NormalValues) (formulas : List (List Nat → EndpointPair)) (blk : Nat) (s : State) : Result :=
  if nv.nparts = 4 ∧ s.bm.isDualPlane = true then errorBlock .dual4Part s
  else if 18 < nv.ncev then errorBlock .cevCount s
  else if nv.ncb < (ceilDiv (13 * nv.ncev) 5 : Nat) then errorBlock .cevBits s
  else finish (normalTexels nv formulas blk s.bm s.cfg) (normalCause nv s.cfg) s

/-! ### The shapes of the rows (`30_encoding.md` R73 to R77) -/

/-- A one-partition row: its CEM, the formula of the CEM, and `blk[127:17]`. -/
def singlePartition (cem : Nat) (formula : List Nat → EndpointPair) (data : BitVec 111) (s : State) : Result :=
  let blk := cem * 2 ^ 13 + data.toNat * 2 ^ 17
  assembleBlock (normalValues s.bm 1 true [cem] blk) [formula] blk s

/-- A row of `n` partitions sharing a CEM: the CEM, its formula, the seed and `blk[127:29]`. -/
def sharedPartitions (n cem : Nat) (formula : List Nat → EndpointPair) (seed : BitVec 10) (data : BitVec 99)
    (s : State) : Result :=
  let blk := (n - 1) * 2 ^ 11 + seed.toNat * 2 ^ 13 + cem * 2 ^ 25 + data.toNat * 2 ^ 29
  assembleBlock (normalValues s.bm n true (List.replicate n cem) blk) (List.replicate n formula) blk s

/-- A row of `n` partitions with independent CEMs: `SEL`, the seed, `blk[28:25]` and `blk[127:29]`. -/
def independentPartitions (n sel : Nat) (seed : BitVec 10) (str4 : BitVec 4) (data : BitVec 99) (s : State) : Result :=
  let blk := (n - 1) * 2 ^ 11 + seed.toNat * 2 ^ 13 + sel * 2 ^ 23 + str4.toNat * 2 ^ 25 + data.toNat * 2 ^ 29
  let cems := decodeCems blk n (extraPos n false (weightBits s.bm))
  assembleBlock (normalValues s.bm n false cems blk) (cems.map endpointFormula) blk s

end Sys2Proof.Machine
end

