-- ==== Sys2Proof/Machine/Generator.lean ====
section
/-! DEFINITION. The block generator (`48_block_generator.md`): the legality check and the assembly of a block. -/

namespace Sys2Proof.Machine

/-! ### Void-extent blocks (R352) -/

/-- The parameters of `ENC_VOID` are refused: an HDR colour with an infinity or a NaN (R352, R354). -/
def voidParamsBad (v : BitVec 65) : Bool :=
  veIsHdr v && (f16IsInfOrNan (veR v) || f16IsInfOrNan (veG v) || f16IsInfOrNan (veB v) || f16IsInfOrNan (veA v))

/-- The bits of a void-extent block below the colour (R352): the sentinel, `ISHDR`, 3 in bits 11:10, and the all-ones
extents. -/
def voidHeader (hdr : Bool) : Block :=
  let buf := setBits 0 0 8 0x1FC
  let buf := setBits buf 9 9 hdr.toNat
  let buf := setBits buf 10 11 3
  let buf := setBits buf 12 24 0x1FFF
  let buf := setBits buf 25 37 0x1FFF
  let buf := setBits buf 38 50 0x1FFF
  setBits buf 51 63 0x1FFF

/-- The block of `ENC_VOID` (R352). -/
def voidBlock (v : BitVec 65) : Block :=
  let buf := setBits (voidHeader (veIsHdr v)) 64 79 (veR v)
  let buf := setBits buf 80 95 (veG v)
  let buf := setBits buf 96 111 (veB v)
  setBits buf 112 127 (veA v)

/-! ### Quantities of a normal block (R355) -/

/-- The values of R355, from `NB_PARAMS`. -/
structure NormalParams where
  /-- `GRID_W` -/
  gridW : Nat
  /-- `GRID_H` -/
  gridH : Nat
  /-- `DUAL` -/
  dual : Bool
  /-- the weight parameters; `ISE_MODE` 3 is none -/
  ise : Option IseParams
  /-- the number of partitions, 1 to 4 -/
  n : Nat
  /-- one CEM for all partitions -/
  single : Bool
  /-- the CEM of each partition -/
  cems : List Nat
deriving DecidableEq, Repr

/-- The parameters an encode command reads (R355). -/
def normalParams (v : BitVec 45) : NormalParams :=
  let n := nbNpart v + 1
  let single := n == 1 || nbSingleCem v
  { gridW := nbGridW v
    gridH := nbGridH v
    dual := nbDual v
    ise := (nbIseMode v).map (fun mode => ⟨mode, nbIseBits v⟩)
    n := n
    single := single
    cems := (List.range n).map (fun p => if single then nbCem v 0 else nbCem v p) }

/-- `nw` (R355). -/
def NormalParams.nw (q : NormalParams) : Nat := q.gridW * q.gridH * planesOf q.dual

/-- `nwb` for given weight parameters (R355). -/
def NormalParams.nwb (q : NormalParams) (ise : IseParams) : Nat := iseRequiredBits ise q.nw

/-- `ncev` (R355). -/
def NormalParams.ncev (q : NormalParams) : Nat := cemsValueCount q.cems

/-- `ncb` (R355). -/
def NormalParams.ncb (q : NormalParams) (ise : IseParams) : Int := colourBits q.n q.single q.dual (q.nwb ise)

/-- `extra` (R355). -/
def NormalParams.extra (q : NormalParams) (ise : IseParams) : Nat := extraPos q.n q.single (q.nwb ise)

/-- `cise` (R355). -/
def NormalParams.cise (q : NormalParams) (ise : IseParams) : IseParams := colourIseParams (q.ncb ise).toNat q.ncev

/-! ### Legality (R356, R357) -/

/-- The predicate `valid_params` (R356). -/
def validParams (cfg : BitVec 6) (q : NormalParams) (ise : IseParams) : Bool :=
  decide (q.nw ≤ 64) && decide (24 ≤ q.nwb ise) && decide (q.nwb ise ≤ 96)
    && decide (q.gridW ≤ blockW cfg) && decide (q.gridH ≤ blockH cfg)
    && !(q.n == 4 && q.dual) && decide (q.ncev ≤ 18)
    && decide ((ceilDiv (13 * q.ncev) 5 : Nat) ≤ q.ncb ise)

/-- The twelve weight parameter sets (L2, `30_encoding.md` R80). -/
def weightIseList : List IseParams :=
  [⟨.plainBit, 1⟩, ⟨.plainBit, 2⟩, ⟨.plainBit, 3⟩, ⟨.plainBit, 4⟩, ⟨.plainBit, 5⟩, ⟨.trit, 0⟩, ⟨.trit, 1⟩, ⟨.trit, 2⟩,
   ⟨.trit, 3⟩, ⟨.quint, 0⟩, ⟨.quint, 1⟩, ⟨.quint, 2⟩]

/-- The weight parameter sets with `h` = 0 (L4). -/
def lowWeightIseList : List IseParams :=
  [⟨.plainBit, 1⟩, ⟨.plainBit, 2⟩, ⟨.plainBit, 3⟩, ⟨.trit, 0⟩, ⟨.trit, 1⟩, ⟨.quint, 0⟩]

/-- The largest CEM class of the partitions (R357, R360). -/
def maxClass (cems : List Nat) : Nat := (cems.map (· / 4)).foldl max 0

/-- The smallest CEM class of the partitions (R357). -/
def minClass (cems : List Nat) : Nat := (cems.map (· / 4)).foldl min 3

/-- L1 to L6 of R357 for given weight parameters. -/
def paramsLegal (cfg : BitVec 6) (q : NormalParams) (ise : IseParams) : Bool :=
  within q.gridW 2 12 && within q.gridH 2 12
    && weightIseList.contains ise
    && (layoutOf q.gridW q.gridH).isSome
    && (layoutOf q.gridW q.gridH != some 9 || (!q.dual && lowWeightIseList.contains ise))
    && (q.single || decide (maxClass q.cems - minClass q.cems ≤ 1))
    && validParams cfg q ise

/-- The weight parameters of a legal parameter set (R357, L1 to L6); none when it is not legal. -/
def legalWeightIse (cfg : BitVec 6) (v : BitVec 45) : Option IseParams :=
  match (normalParams v).ise with
  | none => none
  | some ise => if paramsLegal cfg (normalParams v) ise then some ise else none

/-- L7 and L8 of R357. -/
def inputsInRange (q : NormalParams) (ise : IseParams) (w e : IseInput) : Bool :=
  iseInputInRange ise w q.nw && iseInputInRange (q.cise ise) e q.ncev

/-! ### The block (R358 to R365) -/

/-- `SEL` of an independent-CEM block (R360). -/
def cemSelector (cems : List Nat) : Nat := max 1 (maxClass cems)

/-- The position of bit `i` of the string `S` (R360). -/
def cemStringPos (extra i : Nat) : Nat := if i < 4 then 25 + i else extra + i - 4

/-- The class bit and the two low bits of each partition from `p` on (R360). -/
def putIndependentCems (n extra sel : Nat) (buf : Block) : Nat → List Nat → Block
  | _, [] => buf
  | p, cem :: rest =>
    let buf := setBit buf (25 + p) (if cem / 4 = sel then 1 else 0)
    let buf := setBit buf (cemStringPos extra (n + 2 * p)) (cem % 2)
    let buf := setBit buf (cemStringPos extra (n + 2 * p + 1)) (cem % 4 / 2)
    putIndependentCems n extra sel buf (p + 1) rest

/-- The CEM fields (R360). -/
def putCems (q : NormalParams) (extra : Nat) (buf : Block) : Block :=
  if q.n = 1 then setBits buf 13 16 (q.cems.headD 0)
  else if q.single then setBits (setBits buf 23 24 0) 25 28 (q.cems.headD 0)
  else
    let sel := cemSelector q.cems
    putIndependentCems q.n extra sel (setBits buf 23 24 sel) 0 q.cems

/-- The block of `ENC_NORMAL` (R358), for legal parameters. -/
def normalBlock (v : BitVec 45) (ise : IseParams) (w e : IseInput) : Block :=
  let q := normalParams v
  let buf := setBits 0 0 10 ((writeBlockMode q.gridW q.gridH ise q.dual).getD 0)
  let buf := setBits buf 11 12 (q.n - 1)
  let buf := if q.n = 1 then buf else setBits buf 13 22 (nbSeed v)
  let buf := putCems q (q.extra ise) buf
  let buf := if q.dual then setBits buf (q.extra ise - 2) (q.extra ise - 1) (nbCcs v) else buf
  let buf := encodeIse buf (weightCursor (q.nwb ise)) ise w q.nw
  encodeIse buf (colourCursor q.n (q.ncb ise).toNat) (q.cise ise) e q.ncev

/-! ### The default gradients (R368) -/

/-- The rounded linear ramp from 0 at index 0 to `top` at index `cnt - 1` (R368). -/
def gradient (top cnt i : Nat) : Nat := (i * top + (cnt - 1) / 2) / (cnt - 1)

/-- A default weight: in a dual-plane block the odd elements fall (R368). -/
def defaultWeight (q : NormalParams) (ise : IseParams) (i : Nat) : Nat :=
  let g := gradient (iseRangeMax ise) q.nw i
  if q.dual ∧ i % 2 = 1 then iseRangeMax ise - g else g

/-- An ISE input in plain form with its first `cnt` entries replaced; the others and every record keep their values
(R368). -/
def fillPlain (inp : IseInput) (cnt : Nat) (f : Nat → Nat) : IseInput :=
  { inp with form := .plain
             plain := inp.plain.mapIdx (fun i x => if i < cnt then BitVec.ofNat 8 (f i) else x) }

/-- `W_ISE_IN` after `GEN_DEFAULT` (R368). -/
def defaultWeights (q : NormalParams) (ise : IseParams) (inp : IseInput) : IseInput :=
  fillPlain inp q.nw (defaultWeight q ise)

/-- `E_ISE_IN` after `GEN_DEFAULT` (R368). -/
def defaultEndpoints (q : NormalParams) (ise : IseParams) (inp : IseInput) : IseInput :=
  fillPlain inp q.ncev (gradient (iseRangeMax (q.cise ise)) q.ncev)

end Sys2Proof.Machine
end

