-- ==== Sys2Proof/Machine/Commands.lean ====
section
/-! DEFINITION. The meanings of the eight commands (`30_encoding.md` R90, R91). -/

namespace Sys2Proof.Machine

/-- `NOP` (R90): completes at once. -/
def execNop (s : State) : Result := succeed s

/-- The first step of a decode (`47_block_assembler.md` R300): the refusal test, then the block is latched. -/
def beginDecode (c : BitVec 3) (s : State) : Result :=
  if cfgDecodeLegal s.cfg then .next (latchBlock c s) else refuse .cfgInvalid s

/-- `DECODE` (`47_block_assembler.md` R300). -/
def execDecode (s : State) : Result := beginDecode 1 s

/-- `ISVALID` (`47_block_assembler.md` R340): the steps of `DECODE` with every write to `TX` suppressed. -/
def execIsvalid (s : State) : Result := beginDecode 2 s

/-- `ENC_VOID` (`48_block_generator.md` R352). -/
def execEncVoid (s : State) : Result :=
  if voidParamsBad s.veParams then refuse .encParam s
  else succeed { s with blkOut := voidBlock s.veParams }

/-- `ENC_NORMAL` (`48_block_generator.md` R357, R358). -/
def execEncNormal (s : State) : Result :=
  if 14 ≤ cfgFmt s.cfg then refuse .cfgInvalid s
  else
    match legalWeightIse s.cfg s.nbParams with
    | none => refuse .encParam s
    | some ise =>
      if inputsInRange (normalParams s.nbParams) ise s.wIseIn s.eIseIn then
        succeed { s with blkOut := normalBlock s.nbParams ise s.wIseIn s.eIseIn }
      else refuse .encParam s

/-- `GEN_DEFAULT` (`48_block_generator.md` R368). -/
def execGenDefault (s : State) : Result :=
  if 14 ≤ cfgFmt s.cfg then refuse .cfgInvalid s
  else
    match legalWeightIse s.cfg s.nbParams with
    | none => refuse .encParam s
    | some ise =>
      succeed { s with wIseIn := defaultWeights (normalParams s.nbParams) ise s.wIseIn
                       eIseIn := defaultEndpoints (normalParams s.nbParams) ise s.eIseIn }

/-- `RESERVED_6` (R90): refused. -/
def execReserved6 (s : State) : Result := refuse .cfgInvalid s

/-- `RESERVED_7` (R90): refused. -/
def execReserved7 (s : State) : Result := refuse .cfgInvalid s

end Sys2Proof.Machine
end

