-- ==== Sys2Proof/Machine/EndpointRows.lean ====
section
/-! DEFINITION. The meanings of the 73 partition and CEM rows: step 3 of `DECODE` for each number of partitions and each
CEM (`43_color_endpoints_ldr.md`, `44_color_endpoints_hdr.md`, `47_block_assembler.md` R309 to R328). -/

namespace Sys2Proof.Machine

/-- `CEM0_LDR_LUM_DIRECT` (R200). -/
def execCem0LdrLumDirect (data : BitVec 111) (s : State) : Result := singlePartition 0 ldrLumDirect data s

/-- `CEM1_LDR_LUM_BASE_OFFSET` (R201). -/
def execCem1LdrLumBaseOffset (data : BitVec 111) (s : State) : Result := singlePartition 1 ldrLumBaseOffset data s

/-- `CEM2_HDR_LUM_LARGE` (R230). -/
def execCem2HdrLumLarge (data : BitVec 111) (s : State) : Result := singlePartition 2 hdrLumLarge data s

/-- `CEM3_HDR_LUM_SMALL` (R231). -/
def execCem3HdrLumSmall (data : BitVec 111) (s : State) : Result := singlePartition 3 hdrLumSmall data s

/-- `CEM4_LDR_LUMA_DIRECT` (R202). -/
def execCem4LdrLumaDirect (data : BitVec 111) (s : State) : Result := singlePartition 4 ldrLumaDirect data s

/-- `CEM5_LDR_LUMA_BASE_OFFSET` (R203). -/
def execCem5LdrLumaBaseOffset (data : BitVec 111) (s : State) : Result := singlePartition 5 ldrLumaBaseOffset data s

/-- `CEM6_LDR_RGB_BASE_SCALE` (R204). -/
def execCem6LdrRgbBaseScale (data : BitVec 111) (s : State) : Result := singlePartition 6 ldrRgbBaseScale data s

/-- `CEM7_HDR_RGB_BASE_SCALE` (R232). -/
def execCem7HdrRgbBaseScale (data : BitVec 111) (s : State) : Result := singlePartition 7 hdrRgbBaseScale data s

/-- `CEM8_LDR_RGB_DIRECT` (R205). -/
def execCem8LdrRgbDirect (data : BitVec 111) (s : State) : Result := singlePartition 8 ldrRgbDirect data s

/-- `CEM9_LDR_RGB_BASE_OFFSET` (R206). -/
def execCem9LdrRgbBaseOffset (data : BitVec 111) (s : State) : Result := singlePartition 9 ldrRgbBaseOffset data s

/-- `CEM10_LDR_RGB_BASE_SCALE_2A` (R207). -/
def execCem10LdrRgbBaseScale2a (data : BitVec 111) (s : State) : Result := singlePartition 10 ldrRgbBaseScale2a data s

/-- `CEM11_HDR_RGB_DIRECT` (R238). -/
def execCem11HdrRgbDirect (data : BitVec 111) (s : State) : Result := singlePartition 11 hdrRgbDirect data s

/-- `CEM12_LDR_RGBA_DIRECT` (R208). -/
def execCem12LdrRgbaDirect (data : BitVec 111) (s : State) : Result := singlePartition 12 ldrRgbaDirect data s

/-- `CEM13_LDR_RGBA_BASE_OFFSET` (R209). -/
def execCem13LdrRgbaBaseOffset (data : BitVec 111) (s : State) : Result := singlePartition 13 ldrRgbaBaseOffset data s

/-- `CEM14_HDR_RGB_LDR_ALPHA` (R245). -/
def execCem14HdrRgbLdrAlpha (data : BitVec 111) (s : State) : Result := singlePartition 14 hdrRgbLdrAlpha data s

/-- `CEM15_HDR_RGB_HDR_ALPHA` (R246). -/
def execCem15HdrRgbHdrAlpha (data : BitVec 111) (s : State) : Result := singlePartition 15 hdrRgbHdrAlpha data s

/-- `P2_SHARED_CEM0_LDR_LUM_DIRECT` (R200). -/
def execP2SharedCem0LdrLumDirect (seed : BitVec 10) (data : BitVec 99) (s : State) : Result :=
  sharedPartitions 2 0 ldrLumDirect seed data s

/-- `P2_SHARED_CEM1_LDR_LUM_BASE_OFFSET` (R201). -/
def execP2SharedCem1LdrLumBaseOffset (seed : BitVec 10) (data : BitVec 99) (s : State) : Result :=
  sharedPartitions 2 1 ldrLumBaseOffset seed data s

/-- `P2_SHARED_CEM2_HDR_LUM_LARGE` (R230). -/
def execP2SharedCem2HdrLumLarge (seed : BitVec 10) (data : BitVec 99) (s : State) : Result :=
  sharedPartitions 2 2 hdrLumLarge seed data s

/-- `P2_SHARED_CEM3_HDR_LUM_SMALL` (R231). -/
def execP2SharedCem3HdrLumSmall (seed : BitVec 10) (data : BitVec 99) (s : State) : Result :=
  sharedPartitions 2 3 hdrLumSmall seed data s

/-- `P2_SHARED_CEM4_LDR_LUMA_DIRECT` (R202). -/
def execP2SharedCem4LdrLumaDirect (seed : BitVec 10) (data : BitVec 99) (s : State) : Result :=
  sharedPartitions 2 4 ldrLumaDirect seed data s

/-- `P2_SHARED_CEM5_LDR_LUMA_BASE_OFFSET` (R203). -/
def execP2SharedCem5LdrLumaBaseOffset (seed : BitVec 10) (data : BitVec 99) (s : State) : Result :=
  sharedPartitions 2 5 ldrLumaBaseOffset seed data s

/-- `P2_SHARED_CEM6_LDR_RGB_BASE_SCALE` (R204). -/
def execP2SharedCem6LdrRgbBaseScale (seed : BitVec 10) (data : BitVec 99) (s : State) : Result :=
  sharedPartitions 2 6 ldrRgbBaseScale seed data s

/-- `P2_SHARED_CEM7_HDR_RGB_BASE_SCALE` (R232). -/
def execP2SharedCem7HdrRgbBaseScale (seed : BitVec 10) (data : BitVec 99) (s : State) : Result :=
  sharedPartitions 2 7 hdrRgbBaseScale seed data s

/-- `P2_SHARED_CEM8_LDR_RGB_DIRECT` (R205). -/
def execP2SharedCem8LdrRgbDirect (seed : BitVec 10) (data : BitVec 99) (s : State) : Result :=
  sharedPartitions 2 8 ldrRgbDirect seed data s

/-- `P2_SHARED_CEM9_LDR_RGB_BASE_OFFSET` (R206). -/
def execP2SharedCem9LdrRgbBaseOffset (seed : BitVec 10) (data : BitVec 99) (s : State) : Result :=
  sharedPartitions 2 9 ldrRgbBaseOffset seed data s

/-- `P2_SHARED_CEM10_LDR_RGB_BASE_SCALE_2A` (R207). -/
def execP2SharedCem10LdrRgbBaseScale2a (seed : BitVec 10) (data : BitVec 99) (s : State) : Result :=
  sharedPartitions 2 10 ldrRgbBaseScale2a seed data s

/-- `P2_SHARED_CEM11_HDR_RGB_DIRECT` (R238). -/
def execP2SharedCem11HdrRgbDirect (seed : BitVec 10) (data : BitVec 99) (s : State) : Result :=
  sharedPartitions 2 11 hdrRgbDirect seed data s

/-- `P2_SHARED_CEM12_LDR_RGBA_DIRECT` (R208). -/
def execP2SharedCem12LdrRgbaDirect (seed : BitVec 10) (data : BitVec 99) (s : State) : Result :=
  sharedPartitions 2 12 ldrRgbaDirect seed data s

/-- `P2_SHARED_CEM13_LDR_RGBA_BASE_OFFSET` (R209). -/
def execP2SharedCem13LdrRgbaBaseOffset (seed : BitVec 10) (data : BitVec 99) (s : State) : Result :=
  sharedPartitions 2 13 ldrRgbaBaseOffset seed data s

/-- `P2_SHARED_CEM14_HDR_RGB_LDR_ALPHA` (R245). -/
def execP2SharedCem14HdrRgbLdrAlpha (seed : BitVec 10) (data : BitVec 99) (s : State) : Result :=
  sharedPartitions 2 14 hdrRgbLdrAlpha seed data s

/-- `P2_SHARED_CEM15_HDR_RGB_HDR_ALPHA` (R246). -/
def execP2SharedCem15HdrRgbHdrAlpha (seed : BitVec 10) (data : BitVec 99) (s : State) : Result :=
  sharedPartitions 2 15 hdrRgbHdrAlpha seed data s

/-- `P2_INDEP_SEL1` (`43_color_endpoints_ldr.md` R194). -/
def execP2IndepSel1 (seed : BitVec 10) (str4 : BitVec 4) (data : BitVec 99) (s : State) : Result :=
  independentPartitions 2 1 seed str4 data s

/-- `P2_INDEP_SEL2` (`43_color_endpoints_ldr.md` R194). -/
def execP2IndepSel2 (seed : BitVec 10) (str4 : BitVec 4) (data : BitVec 99) (s : State) : Result :=
  independentPartitions 2 2 seed str4 data s

/-- `P2_INDEP_SEL3` (`43_color_endpoints_ldr.md` R194). -/
def execP2IndepSel3 (seed : BitVec 10) (str4 : BitVec 4) (data : BitVec 99) (s : State) : Result :=
  independentPartitions 2 3 seed str4 data s

/-- `P3_SHARED_CEM0_LDR_LUM_DIRECT` (R200). -/
def execP3SharedCem0LdrLumDirect (seed : BitVec 10) (data : BitVec 99) (s : State) : Result :=
  sharedPartitions 3 0 ldrLumDirect seed data s

/-- `P3_SHARED_CEM1_LDR_LUM_BASE_OFFSET` (R201). -/
def execP3SharedCem1LdrLumBaseOffset (seed : BitVec 10) (data : BitVec 99) (s : State) : Result :=
  sharedPartitions 3 1 ldrLumBaseOffset seed data s

/-- `P3_SHARED_CEM2_HDR_LUM_LARGE` (R230). -/
def execP3SharedCem2HdrLumLarge (seed : BitVec 10) (data : BitVec 99) (s : State) : Result :=
  sharedPartitions 3 2 hdrLumLarge seed data s

/-- `P3_SHARED_CEM3_HDR_LUM_SMALL` (R231). -/
def execP3SharedCem3HdrLumSmall (seed : BitVec 10) (data : BitVec 99) (s : State) : Result :=
  sharedPartitions 3 3 hdrLumSmall seed data s

/-- `P3_SHARED_CEM4_LDR_LUMA_DIRECT` (R202). -/
def execP3SharedCem4LdrLumaDirect (seed : BitVec 10) (data : BitVec 99) (s : State) : Result :=
  sharedPartitions 3 4 ldrLumaDirect seed data s

/-- `P3_SHARED_CEM5_LDR_LUMA_BASE_OFFSET` (R203). -/
def execP3SharedCem5LdrLumaBaseOffset (seed : BitVec 10) (data : BitVec 99) (s : State) : Result :=
  sharedPartitions 3 5 ldrLumaBaseOffset seed data s

/-- `P3_SHARED_CEM6_LDR_RGB_BASE_SCALE` (R204). -/
def execP3SharedCem6LdrRgbBaseScale (seed : BitVec 10) (data : BitVec 99) (s : State) : Result :=
  sharedPartitions 3 6 ldrRgbBaseScale seed data s

/-- `P3_SHARED_CEM7_HDR_RGB_BASE_SCALE` (R232). -/
def execP3SharedCem7HdrRgbBaseScale (seed : BitVec 10) (data : BitVec 99) (s : State) : Result :=
  sharedPartitions 3 7 hdrRgbBaseScale seed data s

/-- `P3_SHARED_CEM8_LDR_RGB_DIRECT` (R205). -/
def execP3SharedCem8LdrRgbDirect (seed : BitVec 10) (data : BitVec 99) (s : State) : Result :=
  sharedPartitions 3 8 ldrRgbDirect seed data s

/-- `P3_SHARED_CEM9_LDR_RGB_BASE_OFFSET` (R206). -/
def execP3SharedCem9LdrRgbBaseOffset (seed : BitVec 10) (data : BitVec 99) (s : State) : Result :=
  sharedPartitions 3 9 ldrRgbBaseOffset seed data s

/-- `P3_SHARED_CEM10_LDR_RGB_BASE_SCALE_2A` (R207). -/
def execP3SharedCem10LdrRgbBaseScale2a (seed : BitVec 10) (data : BitVec 99) (s : State) : Result :=
  sharedPartitions 3 10 ldrRgbBaseScale2a seed data s

/-- `P3_SHARED_CEM11_HDR_RGB_DIRECT` (R238). -/
def execP3SharedCem11HdrRgbDirect (seed : BitVec 10) (data : BitVec 99) (s : State) : Result :=
  sharedPartitions 3 11 hdrRgbDirect seed data s

/-- `P3_SHARED_CEM12_LDR_RGBA_DIRECT` (R208). -/
def execP3SharedCem12LdrRgbaDirect (seed : BitVec 10) (data : BitVec 99) (s : State) : Result :=
  sharedPartitions 3 12 ldrRgbaDirect seed data s

/-- `P3_SHARED_CEM13_LDR_RGBA_BASE_OFFSET` (R209). -/
def execP3SharedCem13LdrRgbaBaseOffset (seed : BitVec 10) (data : BitVec 99) (s : State) : Result :=
  sharedPartitions 3 13 ldrRgbaBaseOffset seed data s

/-- `P3_SHARED_CEM14_HDR_RGB_LDR_ALPHA` (R245). -/
def execP3SharedCem14HdrRgbLdrAlpha (seed : BitVec 10) (data : BitVec 99) (s : State) : Result :=
  sharedPartitions 3 14 hdrRgbLdrAlpha seed data s

/-- `P3_SHARED_CEM15_HDR_RGB_HDR_ALPHA` (R246). -/
def execP3SharedCem15HdrRgbHdrAlpha (seed : BitVec 10) (data : BitVec 99) (s : State) : Result :=
  sharedPartitions 3 15 hdrRgbHdrAlpha seed data s

/-- `P3_INDEP_SEL1` (`43_color_endpoints_ldr.md` R194). -/
def execP3IndepSel1 (seed : BitVec 10) (str4 : BitVec 4) (data : BitVec 99) (s : State) : Result :=
  independentPartitions 3 1 seed str4 data s

/-- `P3_INDEP_SEL2` (`43_color_endpoints_ldr.md` R194). -/
def execP3IndepSel2 (seed : BitVec 10) (str4 : BitVec 4) (data : BitVec 99) (s : State) : Result :=
  independentPartitions 3 2 seed str4 data s

/-- `P3_INDEP_SEL3` (`43_color_endpoints_ldr.md` R194). -/
def execP3IndepSel3 (seed : BitVec 10) (str4 : BitVec 4) (data : BitVec 99) (s : State) : Result :=
  independentPartitions 3 3 seed str4 data s

/-- `P4_SHARED_CEM0_LDR_LUM_DIRECT` (R200). -/
def execP4SharedCem0LdrLumDirect (seed : BitVec 10) (data : BitVec 99) (s : State) : Result :=
  sharedPartitions 4 0 ldrLumDirect seed data s

/-- `P4_SHARED_CEM1_LDR_LUM_BASE_OFFSET` (R201). -/
def execP4SharedCem1LdrLumBaseOffset (seed : BitVec 10) (data : BitVec 99) (s : State) : Result :=
  sharedPartitions 4 1 ldrLumBaseOffset seed data s

/-- `P4_SHARED_CEM2_HDR_LUM_LARGE` (R230). -/
def execP4SharedCem2HdrLumLarge (seed : BitVec 10) (data : BitVec 99) (s : State) : Result :=
  sharedPartitions 4 2 hdrLumLarge seed data s

/-- `P4_SHARED_CEM3_HDR_LUM_SMALL` (R231). -/
def execP4SharedCem3HdrLumSmall (seed : BitVec 10) (data : BitVec 99) (s : State) : Result :=
  sharedPartitions 4 3 hdrLumSmall seed data s

/-- `P4_SHARED_CEM4_LDR_LUMA_DIRECT` (R202). -/
def execP4SharedCem4LdrLumaDirect (seed : BitVec 10) (data : BitVec 99) (s : State) : Result :=
  sharedPartitions 4 4 ldrLumaDirect seed data s

/-- `P4_SHARED_CEM5_LDR_LUMA_BASE_OFFSET` (R203). -/
def execP4SharedCem5LdrLumaBaseOffset (seed : BitVec 10) (data : BitVec 99) (s : State) : Result :=
  sharedPartitions 4 5 ldrLumaBaseOffset seed data s

/-- `P4_SHARED_CEM6_LDR_RGB_BASE_SCALE` (R204). -/
def execP4SharedCem6LdrRgbBaseScale (seed : BitVec 10) (data : BitVec 99) (s : State) : Result :=
  sharedPartitions 4 6 ldrRgbBaseScale seed data s

/-- `P4_SHARED_CEM7_HDR_RGB_BASE_SCALE` (R232). -/
def execP4SharedCem7HdrRgbBaseScale (seed : BitVec 10) (data : BitVec 99) (s : State) : Result :=
  sharedPartitions 4 7 hdrRgbBaseScale seed data s

/-- `P4_SHARED_CEM8_LDR_RGB_DIRECT` (R205). -/
def execP4SharedCem8LdrRgbDirect (seed : BitVec 10) (data : BitVec 99) (s : State) : Result :=
  sharedPartitions 4 8 ldrRgbDirect seed data s

/-- `P4_SHARED_CEM9_LDR_RGB_BASE_OFFSET` (R206). -/
def execP4SharedCem9LdrRgbBaseOffset (seed : BitVec 10) (data : BitVec 99) (s : State) : Result :=
  sharedPartitions 4 9 ldrRgbBaseOffset seed data s

/-- `P4_SHARED_CEM10_LDR_RGB_BASE_SCALE_2A` (R207). -/
def execP4SharedCem10LdrRgbBaseScale2a (seed : BitVec 10) (data : BitVec 99) (s : State) : Result :=
  sharedPartitions 4 10 ldrRgbBaseScale2a seed data s

/-- `P4_SHARED_CEM11_HDR_RGB_DIRECT` (R238). -/
def execP4SharedCem11HdrRgbDirect (seed : BitVec 10) (data : BitVec 99) (s : State) : Result :=
  sharedPartitions 4 11 hdrRgbDirect seed data s

/-- `P4_SHARED_CEM12_LDR_RGBA_DIRECT` (R208). -/
def execP4SharedCem12LdrRgbaDirect (seed : BitVec 10) (data : BitVec 99) (s : State) : Result :=
  sharedPartitions 4 12 ldrRgbaDirect seed data s

/-- `P4_SHARED_CEM13_LDR_RGBA_BASE_OFFSET` (R209). -/
def execP4SharedCem13LdrRgbaBaseOffset (seed : BitVec 10) (data : BitVec 99) (s : State) : Result :=
  sharedPartitions 4 13 ldrRgbaBaseOffset seed data s

/-- `P4_SHARED_CEM14_HDR_RGB_LDR_ALPHA` (R245). -/
def execP4SharedCem14HdrRgbLdrAlpha (seed : BitVec 10) (data : BitVec 99) (s : State) : Result :=
  sharedPartitions 4 14 hdrRgbLdrAlpha seed data s

/-- `P4_SHARED_CEM15_HDR_RGB_HDR_ALPHA` (R246). -/
def execP4SharedCem15HdrRgbHdrAlpha (seed : BitVec 10) (data : BitVec 99) (s : State) : Result :=
  sharedPartitions 4 15 hdrRgbHdrAlpha seed data s

/-- `P4_INDEP_SEL1` (`43_color_endpoints_ldr.md` R194). -/
def execP4IndepSel1 (seed : BitVec 10) (str4 : BitVec 4) (data : BitVec 99) (s : State) : Result :=
  independentPartitions 4 1 seed str4 data s

/-- `P4_INDEP_SEL2` (`43_color_endpoints_ldr.md` R194). -/
def execP4IndepSel2 (seed : BitVec 10) (str4 : BitVec 4) (data : BitVec 99) (s : State) : Result :=
  independentPartitions 4 2 seed str4 data s

/-- `P4_INDEP_SEL3` (`43_color_endpoints_ldr.md` R194). -/
def execP4IndepSel3 (seed : BitVec 10) (str4 : BitVec 4) (data : BitVec 99) (s : State) : Result :=
  independentPartitions 4 3 seed str4 data s

end Sys2Proof.Machine
end

