-- ==== Sys2Proof/Machine/Dispatch.lean ====
section
/-! DEFINITION. What an instruction does: one arm per row of the opcode table, one meaning each. -/

namespace Sys2Proof.Machine

/-- The effect of an instruction. -/
def exec (i : Instr) (s : State) : Host.Outcome State Fault Refusal :=
  match i with
  | .voidExtent d rsv minS maxS minT maxT cr cg cb ca => Sys2Proof.Machine.execVoidExtent d rsv minS maxS minT maxT cr cg cb ca s
  | .reservedLow4Zero x => Sys2Proof.Machine.execReservedLow4Zero x s
  | .reserved111_01 hi lo => Sys2Proof.Machine.execReserved111_01 hi lo s
  | .reserved111_10 hi lo => Sys2Proof.Machine.execReserved111_10 hi lo s
  | .reserved111_11_00 hi => Sys2Proof.Machine.execReserved111_11_00 hi s
  | .reserved111_11_01 hi => Sys2Proof.Machine.execReserved111_11_01 hi s
  | .reserved111_11_10 hi => Sys2Proof.Machine.execReserved111_11_10 hi s
  | .modeL0R1 d h b a r0 => Sys2Proof.Machine.execModeL0R1 d h b a r0 s
  | .modeL0R2 d h b a r0 => Sys2Proof.Machine.execModeL0R2 d h b a r0 s
  | .modeL0R3 d h b a r0 => Sys2Proof.Machine.execModeL0R3 d h b a r0 s
  | .modeL1R1 d h b a r0 => Sys2Proof.Machine.execModeL1R1 d h b a r0 s
  | .modeL1R2 d h b a r0 => Sys2Proof.Machine.execModeL1R2 d h b a r0 s
  | .modeL1R3 d h b a r0 => Sys2Proof.Machine.execModeL1R3 d h b a r0 s
  | .modeL2R1 d h b a r0 => Sys2Proof.Machine.execModeL2R1 d h b a r0 s
  | .modeL2R2 d h b a r0 => Sys2Proof.Machine.execModeL2R2 d h b a r0 s
  | .modeL2R3 d h b a r0 => Sys2Proof.Machine.execModeL2R3 d h b a r0 s
  | .modeL3R1 d h b a r0 => Sys2Proof.Machine.execModeL3R1 d h b a r0 s
  | .modeL3R2 d h b a r0 => Sys2Proof.Machine.execModeL3R2 d h b a r0 s
  | .modeL3R3 d h b a r0 => Sys2Proof.Machine.execModeL3R3 d h b a r0 s
  | .modeL4R1 d h b a r0 => Sys2Proof.Machine.execModeL4R1 d h b a r0 s
  | .modeL4R2 d h b a r0 => Sys2Proof.Machine.execModeL4R2 d h b a r0 s
  | .modeL4R3 d h b a r0 => Sys2Proof.Machine.execModeL4R3 d h b a r0 s
  | .modeL5R1 d h a r0 => Sys2Proof.Machine.execModeL5R1 d h a r0 s
  | .modeL5R2 d h a r0 => Sys2Proof.Machine.execModeL5R2 d h a r0 s
  | .modeL5R3 d h a r0 => Sys2Proof.Machine.execModeL5R3 d h a r0 s
  | .modeL6R1 d h a r0 => Sys2Proof.Machine.execModeL6R1 d h a r0 s
  | .modeL6R2 d h a r0 => Sys2Proof.Machine.execModeL6R2 d h a r0 s
  | .modeL6R3 d h a r0 => Sys2Proof.Machine.execModeL6R3 d h a r0 s
  | .modeL7R1 d h r0 => Sys2Proof.Machine.execModeL7R1 d h r0 s
  | .modeL7R2 d h r0 => Sys2Proof.Machine.execModeL7R2 d h r0 s
  | .modeL7R3 d h r0 => Sys2Proof.Machine.execModeL7R3 d h r0 s
  | .modeL8R1 d h r0 => Sys2Proof.Machine.execModeL8R1 d h r0 s
  | .modeL8R2 d h r0 => Sys2Proof.Machine.execModeL8R2 d h r0 s
  | .modeL8R3 d h r0 => Sys2Proof.Machine.execModeL8R3 d h r0 s
  | .modeL9R1 b a r0 => Sys2Proof.Machine.execModeL9R1 b a r0 s
  | .modeL9R2 b a r0 => Sys2Proof.Machine.execModeL9R2 b a r0 s
  | .modeL9R3 b a r0 => Sys2Proof.Machine.execModeL9R3 b a r0 s
  | .cem0LdrLumDirect data => Sys2Proof.Machine.execCem0LdrLumDirect data s
  | .cem1LdrLumBaseOffset data => Sys2Proof.Machine.execCem1LdrLumBaseOffset data s
  | .cem2HdrLumLarge data => Sys2Proof.Machine.execCem2HdrLumLarge data s
  | .cem3HdrLumSmall data => Sys2Proof.Machine.execCem3HdrLumSmall data s
  | .cem4LdrLumaDirect data => Sys2Proof.Machine.execCem4LdrLumaDirect data s
  | .cem5LdrLumaBaseOffset data => Sys2Proof.Machine.execCem5LdrLumaBaseOffset data s
  | .cem6LdrRgbBaseScale data => Sys2Proof.Machine.execCem6LdrRgbBaseScale data s
  | .cem7HdrRgbBaseScale data => Sys2Proof.Machine.execCem7HdrRgbBaseScale data s
  | .cem8LdrRgbDirect data => Sys2Proof.Machine.execCem8LdrRgbDirect data s
  | .cem9LdrRgbBaseOffset data => Sys2Proof.Machine.execCem9LdrRgbBaseOffset data s
  | .cem10LdrRgbBaseScale2a data => Sys2Proof.Machine.execCem10LdrRgbBaseScale2a data s
  | .cem11HdrRgbDirect data => Sys2Proof.Machine.execCem11HdrRgbDirect data s
  | .cem12LdrRgbaDirect data => Sys2Proof.Machine.execCem12LdrRgbaDirect data s
  | .cem13LdrRgbaBaseOffset data => Sys2Proof.Machine.execCem13LdrRgbaBaseOffset data s
  | .cem14HdrRgbLdrAlpha data => Sys2Proof.Machine.execCem14HdrRgbLdrAlpha data s
  | .cem15HdrRgbHdrAlpha data => Sys2Proof.Machine.execCem15HdrRgbHdrAlpha data s
  | .p2SharedCem0LdrLumDirect seed data => Sys2Proof.Machine.execP2SharedCem0LdrLumDirect seed data s
  | .p2SharedCem1LdrLumBaseOffset seed data => Sys2Proof.Machine.execP2SharedCem1LdrLumBaseOffset seed data s
  | .p2SharedCem2HdrLumLarge seed data => Sys2Proof.Machine.execP2SharedCem2HdrLumLarge seed data s
  | .p2SharedCem3HdrLumSmall seed data => Sys2Proof.Machine.execP2SharedCem3HdrLumSmall seed data s
  | .p2SharedCem4LdrLumaDirect seed data => Sys2Proof.Machine.execP2SharedCem4LdrLumaDirect seed data s
  | .p2SharedCem5LdrLumaBaseOffset seed data => Sys2Proof.Machine.execP2SharedCem5LdrLumaBaseOffset seed data s
  | .p2SharedCem6LdrRgbBaseScale seed data => Sys2Proof.Machine.execP2SharedCem6LdrRgbBaseScale seed data s
  | .p2SharedCem7HdrRgbBaseScale seed data => Sys2Proof.Machine.execP2SharedCem7HdrRgbBaseScale seed data s
  | .p2SharedCem8LdrRgbDirect seed data => Sys2Proof.Machine.execP2SharedCem8LdrRgbDirect seed data s
  | .p2SharedCem9LdrRgbBaseOffset seed data => Sys2Proof.Machine.execP2SharedCem9LdrRgbBaseOffset seed data s
  | .p2SharedCem10LdrRgbBaseScale2a seed data => Sys2Proof.Machine.execP2SharedCem10LdrRgbBaseScale2a seed data s
  | .p2SharedCem11HdrRgbDirect seed data => Sys2Proof.Machine.execP2SharedCem11HdrRgbDirect seed data s
  | .p2SharedCem12LdrRgbaDirect seed data => Sys2Proof.Machine.execP2SharedCem12LdrRgbaDirect seed data s
  | .p2SharedCem13LdrRgbaBaseOffset seed data => Sys2Proof.Machine.execP2SharedCem13LdrRgbaBaseOffset seed data s
  | .p2SharedCem14HdrRgbLdrAlpha seed data => Sys2Proof.Machine.execP2SharedCem14HdrRgbLdrAlpha seed data s
  | .p2SharedCem15HdrRgbHdrAlpha seed data => Sys2Proof.Machine.execP2SharedCem15HdrRgbHdrAlpha seed data s
  | .p2IndepSel1 seed str4 data => Sys2Proof.Machine.execP2IndepSel1 seed str4 data s
  | .p2IndepSel2 seed str4 data => Sys2Proof.Machine.execP2IndepSel2 seed str4 data s
  | .p2IndepSel3 seed str4 data => Sys2Proof.Machine.execP2IndepSel3 seed str4 data s
  | .p3SharedCem0LdrLumDirect seed data => Sys2Proof.Machine.execP3SharedCem0LdrLumDirect seed data s
  | .p3SharedCem1LdrLumBaseOffset seed data => Sys2Proof.Machine.execP3SharedCem1LdrLumBaseOffset seed data s
  | .p3SharedCem2HdrLumLarge seed data => Sys2Proof.Machine.execP3SharedCem2HdrLumLarge seed data s
  | .p3SharedCem3HdrLumSmall seed data => Sys2Proof.Machine.execP3SharedCem3HdrLumSmall seed data s
  | .p3SharedCem4LdrLumaDirect seed data => Sys2Proof.Machine.execP3SharedCem4LdrLumaDirect seed data s
  | .p3SharedCem5LdrLumaBaseOffset seed data => Sys2Proof.Machine.execP3SharedCem5LdrLumaBaseOffset seed data s
  | .p3SharedCem6LdrRgbBaseScale seed data => Sys2Proof.Machine.execP3SharedCem6LdrRgbBaseScale seed data s
  | .p3SharedCem7HdrRgbBaseScale seed data => Sys2Proof.Machine.execP3SharedCem7HdrRgbBaseScale seed data s
  | .p3SharedCem8LdrRgbDirect seed data => Sys2Proof.Machine.execP3SharedCem8LdrRgbDirect seed data s
  | .p3SharedCem9LdrRgbBaseOffset seed data => Sys2Proof.Machine.execP3SharedCem9LdrRgbBaseOffset seed data s
  | .p3SharedCem10LdrRgbBaseScale2a seed data => Sys2Proof.Machine.execP3SharedCem10LdrRgbBaseScale2a seed data s
  | .p3SharedCem11HdrRgbDirect seed data => Sys2Proof.Machine.execP3SharedCem11HdrRgbDirect seed data s
  | .p3SharedCem12LdrRgbaDirect seed data => Sys2Proof.Machine.execP3SharedCem12LdrRgbaDirect seed data s
  | .p3SharedCem13LdrRgbaBaseOffset seed data => Sys2Proof.Machine.execP3SharedCem13LdrRgbaBaseOffset seed data s
  | .p3SharedCem14HdrRgbLdrAlpha seed data => Sys2Proof.Machine.execP3SharedCem14HdrRgbLdrAlpha seed data s
  | .p3SharedCem15HdrRgbHdrAlpha seed data => Sys2Proof.Machine.execP3SharedCem15HdrRgbHdrAlpha seed data s
  | .p3IndepSel1 seed str4 data => Sys2Proof.Machine.execP3IndepSel1 seed str4 data s
  | .p3IndepSel2 seed str4 data => Sys2Proof.Machine.execP3IndepSel2 seed str4 data s
  | .p3IndepSel3 seed str4 data => Sys2Proof.Machine.execP3IndepSel3 seed str4 data s
  | .p4SharedCem0LdrLumDirect seed data => Sys2Proof.Machine.execP4SharedCem0LdrLumDirect seed data s
  | .p4SharedCem1LdrLumBaseOffset seed data => Sys2Proof.Machine.execP4SharedCem1LdrLumBaseOffset seed data s
  | .p4SharedCem2HdrLumLarge seed data => Sys2Proof.Machine.execP4SharedCem2HdrLumLarge seed data s
  | .p4SharedCem3HdrLumSmall seed data => Sys2Proof.Machine.execP4SharedCem3HdrLumSmall seed data s
  | .p4SharedCem4LdrLumaDirect seed data => Sys2Proof.Machine.execP4SharedCem4LdrLumaDirect seed data s
  | .p4SharedCem5LdrLumaBaseOffset seed data => Sys2Proof.Machine.execP4SharedCem5LdrLumaBaseOffset seed data s
  | .p4SharedCem6LdrRgbBaseScale seed data => Sys2Proof.Machine.execP4SharedCem6LdrRgbBaseScale seed data s
  | .p4SharedCem7HdrRgbBaseScale seed data => Sys2Proof.Machine.execP4SharedCem7HdrRgbBaseScale seed data s
  | .p4SharedCem8LdrRgbDirect seed data => Sys2Proof.Machine.execP4SharedCem8LdrRgbDirect seed data s
  | .p4SharedCem9LdrRgbBaseOffset seed data => Sys2Proof.Machine.execP4SharedCem9LdrRgbBaseOffset seed data s
  | .p4SharedCem10LdrRgbBaseScale2a seed data => Sys2Proof.Machine.execP4SharedCem10LdrRgbBaseScale2a seed data s
  | .p4SharedCem11HdrRgbDirect seed data => Sys2Proof.Machine.execP4SharedCem11HdrRgbDirect seed data s
  | .p4SharedCem12LdrRgbaDirect seed data => Sys2Proof.Machine.execP4SharedCem12LdrRgbaDirect seed data s
  | .p4SharedCem13LdrRgbaBaseOffset seed data => Sys2Proof.Machine.execP4SharedCem13LdrRgbaBaseOffset seed data s
  | .p4SharedCem14HdrRgbLdrAlpha seed data => Sys2Proof.Machine.execP4SharedCem14HdrRgbLdrAlpha seed data s
  | .p4SharedCem15HdrRgbHdrAlpha seed data => Sys2Proof.Machine.execP4SharedCem15HdrRgbHdrAlpha seed data s
  | .p4IndepSel1 seed str4 data => Sys2Proof.Machine.execP4IndepSel1 seed str4 data s
  | .p4IndepSel2 seed str4 data => Sys2Proof.Machine.execP4IndepSel2 seed str4 data s
  | .p4IndepSel3 seed str4 data => Sys2Proof.Machine.execP4IndepSel3 seed str4 data s
  | .nop => Sys2Proof.Machine.execNop s
  | .decode => Sys2Proof.Machine.execDecode s
  | .isvalid => Sys2Proof.Machine.execIsvalid s
  | .encVoid => Sys2Proof.Machine.execEncVoid s
  | .encNormal => Sys2Proof.Machine.execEncNormal s
  | .genDefault => Sys2Proof.Machine.execGenDefault s
  | .reserved6 => Sys2Proof.Machine.execReserved6 s
  | .reserved7 => Sys2Proof.Machine.execReserved7 s

end Sys2Proof.Machine
end

