-- ==== Sys2Proof/Machine/Fetch.lean ====
section
/-! DEFINITION. Which instruction comes next: the command code just written, then the block mode, then the partition and
CEM fields of the latched block (`10_state.md` R35, `47_block_assembler.md` R300, `20_memory.md` R65). -/

namespace Sys2Proof.Machine

/-- The bytes of the next instruction and the space they are read in; none while no command runs. -/
def fetchBytes (s : State) : Option (Space × List Byte) :=
  match s.phase with
  | .idle => none
  | .command => some (.command, [s.cmd.setWidth 8])
  | .blockMode => some (.blockMode, bytesOfBlock s.blk)
  | .endpoint => some (.endpoint, bytesOfBlock s.blk)

/-- The next instruction; none while no command runs (bytes that are no instruction cannot occur, log 15). -/
def fetch (s : State) : Option Instr :=
  match fetchBytes s with
  | none => none
  | some (sp, bytes) =>
    match decode sp bytes with
    | .ok i => some i
    | .error _ => none

/-- The block mode under which a CEM row runs as a first instruction: a 4x4 grid of 2-bit weights, one plane, that of
`m` = `0x042` (`42_block_mode.md` R160). -/
def plainGridMode : BlockModeInfo :=
  { isError := false, isVoidExtent := false, isDualPlane := false, gridW := 4, gridH := 4, ise := ⟨.plainBit, 2⟩ }

/-- A decode under way at a given step, with a given latched block (log 3). -/
def decodeAt (phase : Phase) (blk : Block) (s : State) : State :=
  { s with status := startStatus s.status, cmd := 1, phase := phase, blk := blk }

end Sys2Proof.Machine
end

