-- ==== Sys2Proof/Machine/HostPort.lean ====
section
/-! DEFINITION. The host's accesses (`70_reset_and_hazards.md` R440, R441, R450 to R453, R465; `10_state.md` R21, R43;
`20_memory.md` R60). -/

namespace Sys2Proof.Machine

/-! ### Register numbers (`10_state.md` R21) -/

/-- The number of a register: its index on the host interface. -/
def Register.number (r : Register) : Nat :=
  match r with
  | .cmd => 0
  | .status => 1
  | .cfg => 2
  | .blkIn => 3
  | .blkOut => 4
  | .veParams => 5
  | .nbParams => 6
  | .wIseIn => 7
  | .eIseIn => 8

/-- The register of a number; a number above 8 is outside the hardware (`20_memory.md` R60). -/
def Register.ofNumber (n : Nat) : Option Register :=
  match n with
  | 0 => some .cmd
  | 1 => some .status
  | 2 => some .cfg
  | 3 => some .blkIn
  | 4 => some .blkOut
  | 5 => some .veParams
  | 6 => some .nbParams
  | 7 => some .wIseIn
  | 8 => some .eIseIn
  | _ => none

/-- The register of an ISE input. -/
def IseSide.register (side : IseSide) : Register :=
  match side with
  | .weights => .wIseIn
  | .endpoints => .eIseIn

/-- The register a port belongs to and the piece of it; none for `TX`, which has no number. -/
def Port.register (p : Port) : Option (Register × RegisterPart) :=
  match p with
  | .cmd => some (.cmd, .whole)
  | .status => some (.status, .whole)
  | .cfg => some (.cfg, .whole)
  | .blkInByte k => some (.blkIn, .byte k)
  | .blkOutByte k => some (.blkOut, .byte k)
  | .veParams => some (.veParams, .whole)
  | .nbParams => some (.nbParams, .whole)
  | .iseForm side => some (side.register, .form)
  | .isePlain side i => some (side.register, .plain i)
  | .iseTq side k => some (side.register, .tq k)
  | .iseBits side k j => some (side.register, .bits k j)
  | .tx _ => none

/-- A piece of an ISE input as a port. -/
def isePort (side : IseSide) (part : RegisterPart) : Option Port :=
  match part with
  | .form => some (.iseForm side)
  | .plain i => some (.isePlain side i)
  | .tq k => some (.iseTq side k)
  | .bits k j => some (.iseBits side k j)
  | .whole => none
  | .byte _ => none

/-- A piece of a register as a port; none where the register has no such piece. -/
def Register.port (r : Register) (part : RegisterPart) : Option Port :=
  match r, part with
  | .cmd, .whole => some .cmd
  | .status, .whole => some .status
  | .cfg, .whole => some .cfg
  | .blkIn, .byte k => some (.blkInByte k)
  | .blkOut, .byte k => some (.blkOutByte k)
  | .veParams, .whole => some .veParams
  | .nbParams, .whole => some .nbParams
  | .wIseIn, part => isePort .weights part
  | .eIseIn, part => isePort .endpoints part
  | _, _ => none

/-- The port that an access to a register number addresses (R21, `20_memory.md` R60). -/
def portAt (number : Nat) (part : RegisterPart) : Option Port :=
  (Register.ofNumber number).bind (fun r => r.port part)

/-! ### Addresses outside the hardware -/

/-- What is wrong with the address of an access: a `TX` address, a byte or an entry the hardware does not have
(`20_memory.md` R60; log 8). -/
def portFault (p : Port) : Option Fault :=
  match p with
  | .tx addr => if addr < 2304 then none else some (.txOutside addr)
  | .blkInByte k => if k < 16 then none else some (.entryOutside p)
  | .blkOutByte k => if k < 16 then none else some (.entryOutside p)
  | .isePlain _ i => if i < 64 then none else some (.entryOutside p)
  | .iseTq _ k => if k < 64 then none else some (.entryOutside p)
  | .iseBits _ k j => if k < 64 ∧ j < 5 then none else some (.entryOutside p)
  | .cmd => none
  | .status => none
  | .cfg => none
  | .veParams => none
  | .nbParams => none
  | .iseForm _ => none

/-! ### Writes -/

/-- A block with byte `k` replaced (`20_memory.md` R52). -/
def setBlockByte (blk : Block) (k v : Nat) : Block := setBits blk (8 * k) (8 * k + 7) v

/-- An update of one record of an ISE input. -/
def modifyIseBlock (inp : IseInput) (k : Nat) (f : IseBlock → IseBlock) : IseInput :=
  { inp with block := inp.block.mapIdx (fun i b => if i = k then f b else b) }

/-- A write to `FORM`. -/
def writeForm (v : Nat) (inp : IseInput) : IseInput := { inp with form := if v % 2 = 1 then .block else .plain }

/-- A write to `PLAIN[i]`. -/
def writePlain (i v : Nat) (inp : IseInput) : IseInput :=
  { inp with plain := inp.plain.mapIdx (fun k x => if k = i then BitVec.ofNat 8 v else x) }

/-- A write to `BLOCK[k].TQ`. -/
def writeTq (k v : Nat) (inp : IseInput) : IseInput :=
  modifyIseBlock inp k (fun b => { b with tq := BitVec.ofNat 8 v })

/-- A write to `BLOCK[k].BITS[j]`. -/
def writeIseBits (k j v : Nat) (inp : IseInput) : IseInput :=
  modifyIseBlock inp k (fun b => { b with bits := b.bits.mapIdx (fun i x => if i = j then BitVec.ofNat 8 v else x) })

/-- An update of one of the two ISE inputs. -/
def modifyIse (side : IseSide) (f : IseInput → IseInput) (s : State) : State :=
  match side with
  | .weights => { s with wIseIn := f s.wIseIn }
  | .endpoints => { s with eIseIn := f s.eIseIn }

/-- A host write while `BUSY` = 0, to an address the hardware has: a value wider than the register is truncated (log
18), `STATUS` and `BLK_OUT` are read-only (R452), and a write to `CMD` is the start event (R450). -/
def writePort (p : Port) (v : Nat) (s : State) : State :=
  match p with
  | .cmd => startCommand (BitVec.ofNat 3 v) s
  | .status => s
  | .cfg => { s with cfg := BitVec.ofNat 6 v }
  | .blkInByte k => { s with blkIn := setBlockByte s.blkIn k v }
  | .blkOutByte _ => s
  | .veParams => { s with veParams := BitVec.ofNat 65 v }
  | .nbParams => { s with nbParams := BitVec.ofNat 45 v }
  | .iseForm side => modifyIse side (writeForm v) s
  | .isePlain side i => modifyIse side (writePlain i v) s
  | .iseTq side k => modifyIse side (writeTq k v) s
  | .iseBits side k j => modifyIse side (writeIseBits k j v) s
  | .tx addr => { s with tx := s.tx.writeBytes addr [BitVec.ofNat 8 v] }

/-- A host write: ignored while a command runs (R452). -/
def hostWrite (p : Port) (v : Nat) (s : State) : Result :=
  match portFault p with
  | some f => .fault f
  | none => .next (if statusBusy s.status then s else writePort p v s)

/-! ### Reads -/

/-- One of the two ISE inputs. -/
def iseInput (side : IseSide) (s : State) : IseInput :=
  match side with
  | .weights => s.wIseIn
  | .endpoints => s.eIseIn

/-- The record `BLOCK[k]` of an ISE input. -/
def iseRecord (inp : IseInput) (k : Nat) : IseBlock := inp.block.toList.getD k ⟨0, Vector.replicate 5 0⟩

/-- The value a port holds; none for a `TX` byte without a value (`10_state.md` R42). `CMD` reads 0 (R22). -/
def portValue (p : Port) (s : State) : Option Nat :=
  match p with
  | .cmd => some 0
  | .status => some s.status.toNat
  | .cfg => some s.cfg.toNat
  | .blkInByte k => some (blockByte s.blkIn k).toNat
  | .blkOutByte k => some (blockByte s.blkOut k).toNat
  | .veParams => some s.veParams.toNat
  | .nbParams => some s.nbParams.toNat
  | .iseForm side => some (if (iseInput side s).form = .block then 1 else 0)
  | .isePlain side i => some ((iseInput side s).plain.toList.getD i 0).toNat
  | .iseTq side k => some (iseRecord (iseInput side s) k).tq.toNat
  | .iseBits side k j => some ((iseRecord (iseInput side s) k).bits.toList.getD j 0).toNat
  | .tx addr => (s.tx.read addr).map (·.toNat)

/-- What a read while a command runs returns where the value is unspecified (R453, `10_state.md` R43), from a free
value; none where the register keeps its value. `STATUS` reads `BUSY` = 1 and `DONE` = 0. -/
def busyValue (p : Port) (free : Nat) : Option Nat :=
  match p with
  | .status => some (1 + 4 * (free % 64))
  | .blkOutByte _ => some (free % 256)
  | .iseForm _ => some (free % 2)
  | .isePlain _ _ => some (free % 256)
  | .iseTq _ _ => some (free % 256)
  | .iseBits _ _ _ => some (free % 256)
  | .tx _ => some (free % 256)
  | .cmd => none
  | .cfg => none
  | .blkInByte _ => none
  | .veParams => none
  | .nbParams => none

/-- A read of the value a port holds. -/
def settledRead (p : Port) (s : State) : Result :=
  match p, portValue p s with
  | _, some v => .next { s with readData := v }
  | .tx addr, none => .fault (.txUndefined addr)
  | p, none => .fault (.entryOutside p)

/-- A host read. It has no effect on the hardware (`20_memory.md` R60). -/
def hostRead (p : Port) (s : State) : Result :=
  match portFault p with
  | some f => .fault f
  | none =>
    if statusBusy s.status then
      match busyValue p (Config.busyRead s.freeCount) with
      | some v => .next { s with readData := v, freeCount := s.freeCount + 1 }
      | none => settledRead p s
    else settledRead p s

/-! ### Reset -/

/-- The reset event (R440, R441): every register at its reset value, no `TX` byte with a value, a running command
abandoned. The model's own fields are kept (log 19). -/
def resetEvent (s : State) : State :=
  { State.reset with host := s.host, readData := s.readData, freeCount := s.freeCount }

end Sys2Proof.Machine
end

