-- ==== Sys2Proof/Machine/Step.lean ====
section
/-! DEFINITION. One step of the machine: the codec's next instruction, or the host's next action (log 1). -/

namespace Sys2Proof.Machine

/-- The codec's own step: it runs the next instruction of the running command, and does nothing while no command runs
(`70_reset_and_hazards.md` R465). -/
def codecStep (s : State) : Host.Outcome State Fault Refusal :=
  match fetch s with
  | none => .next s
  | some i => exec i s

/-- One step. With no host action left the codec goes on by itself; `tick` and `waitDone` let it go on too, and
`waitDone` stays until `BUSY` = 0 (`30_encoding.md` R92). -/
def step (s : State) : Host.Outcome State Fault Refusal :=
  match s.host with
  | [] => codecStep s
  | .tick :: rest => codecStep { s with host := rest }
  | .waitDone :: rest => if statusBusy s.status then codecStep s else .next { s with host := rest }
  | .write p v :: rest => hostWrite p v { s with host := rest }
  | .read p :: rest => hostRead p { s with host := rest }
  | .reset :: rest => .next (resetEvent { s with host := rest })

/-- `s` about to run the instruction of a word of the opcode table (log 3): a command has just been written to `CMD`; or
a decode has latched the block whose low bits are the word, and stands at its block mode or at its partition and CEM
fields. -/
def State.withFetchWord (s : State) (nbits w : Nat) : State :=
  match tableSpace nbits w with
  | .command => startCommand (BitVec.ofNat 3 w) { s with host := [] }
  | .blockMode => decodeAt .blockMode (BitVec.ofNat 128 w) { s with host := [] }
  | .endpoint => decodeAt .endpoint (BitVec.ofNat 128 w) { s with host := [], bm := plainGridMode }

end Sys2Proof.Machine
end

