-- ==== Sys2Proof/Machine/Assembly.lean ====
section
/-! DEFINITION. The assembly form of a block (`30_encoding.md` R84): the fields of the written syntax, the host's actions
that assemble it, and disassembly, the front half of `DECODE`. -/

namespace Sys2Proof.Machine

/-- A sequence of the written syntax: a plain list, a list of blocks with their `T` or `Q` and bits, or the default
gradient, each sequence of a block by itself (log 23). -/
inductive AsmSequence where
  | plain (vs : List Nat)
  | blocks (bs : List (Nat × List Nat))
  | default
deriving DecidableEq, Repr

/-- A block in the written syntax (R84). -/
inductive AsmBlock where
  | void (hdr : Bool) (r g b a : Nat)
  | normal (gridW gridH : Nat) (wise : IseParams) (dual : Bool) (ccs parts seed : Nat) (cem : List Nat) (shared : Bool)
      (weights endpoints : AsmSequence)
deriving DecidableEq, Repr

/-- `VE_PARAMS` from its fields (`10_state.md` R29). -/
def packVeParams (hdr : Bool) (r g b a : Nat) : Nat :=
  hdr.toNat + r % 2 ^ 16 * 2 + g % 2 ^ 16 * 2 ^ 17 + b % 2 ^ 16 * 2 ^ 33 + a % 2 ^ 16 * 2 ^ 49

/-- The code of an ISE mode in `NB_PARAMS` (`10_state.md` R30). -/
def iseModeCode (m : IseMode) : Nat :=
  match m with
  | .trit => 0
  | .quint => 1
  | .plainBit => 2

/-- `NB_PARAMS` from its fields (`10_state.md` R30). -/
def packNbParams (gridW gridH : Nat) (wise : IseParams) (dual : Bool) (ccs parts seed : Nat) (cem : List Nat)
    (shared : Bool) : Nat :=
  gridW % 16 + gridH % 16 * 2 ^ 4 + iseModeCode wise.mode * 2 ^ 8 + wise.numBits % 8 * 2 ^ 10 + dual.toNat * 2 ^ 13
    + ccs % 4 * 2 ^ 14 + (parts - 1) % 4 * 2 ^ 16 + shared.toNat * 2 ^ 18 + seed % 1024 * 2 ^ 19
    + cem.getD 0 0 % 16 * 2 ^ 29 + cem.getD 1 0 % 16 * 2 ^ 33 + cem.getD 2 0 % 16 * 2 ^ 37 + cem.getD 3 0 % 16 * 2 ^ 41

/-- Writes of consecutive entries from `i` on. -/
def asmWrites (port : Nat → Port) : Nat → List Nat → List HostAct
  | _, [] => []
  | i, v :: vs => .write (port i) v :: asmWrites port (i + 1) vs

/-- The writes of the records of a block-form sequence from `k` on. -/
def asmBlockWrites (side : IseSide) : Nat → List (Nat × List Nat) → List HostAct
  | _, [] => []
  | k, (tq, bits) :: bs =>
    .write (.iseTq side k) tq :: asmWrites (.iseBits side k) 0 bits ++ asmBlockWrites side (k + 1) bs

/-- The writes that set up one ISE input; the default gradient needs none. -/
def asmSequenceActs (side : IseSide) (q : AsmSequence) : List HostAct :=
  match q with
  | .plain vs => .write (.iseForm side) 0 :: asmWrites (.isePlain side) 0 vs
  | .blocks bs => .write (.iseForm side) 1 :: asmBlockWrites side 0 bs
  | .default => []

/-- A command and the wait for its end (`30_encoding.md` R92). -/
def commandActs (code : Nat) : List HostAct := [.write .cmd code, .waitDone]

/-- The host's actions that assemble a block: its parameters, the default gradients where one is asked for, the explicit
sequences, then the encode command (R84, `48_block_generator.md` R368). R84 writes both sequences out and its examples
have both or none as the default; that one alone may be, and that `GEN_DEFAULT` then runs before the explicit sequence is
written, is the model's DESIGN CHOICE (log 23). -/
def assembleActs (b : AsmBlock) : List HostAct :=
  match b with
  | .void hdr r g bl a => .write .veParams (packVeParams hdr r g bl a) :: commandActs 3
  | .normal gw gh wise dual ccs parts seed cem shared weights endpoints =>
    .write .nbParams (packNbParams gw gh wise dual ccs parts seed cem shared)
      :: (if weights = .default ∨ endpoints = .default then commandActs 5 else [])
      ++ asmSequenceActs .weights weights ++ asmSequenceActs .endpoints endpoints ++ commandActs 4

/-- What disassembly finds in a normal block (R84): the members of the `NORMAL` form. -/
structure DisasmNormal where
  /-- the block mode: grid, weight parameters and dual-plane flag -/
  bm : BlockModeInfo
  /-- the colour component selector; none for a single-plane block, whose form has no `ccs` -/
  ccs : Option Nat
  /-- the number of partitions -/
  parts : Nat
  /-- the partition seed; none for one partition, whose form has no `seed` -/
  seed : Option Nat
  /-- the CEM of each partition -/
  cem : List Nat
  /-- the partitions of a multi-partition block share their CEM (`SEL` = 0) -/
  shared : Bool
  /-- the weight elements -/
  weights : List Nat
  /-- the colour elements -/
  endpoints : List Nat
deriving DecidableEq, Repr

/-- What disassembly finds in a block (R84): the members of the `VOID` form, those of `VE_PARAMS`, or of the `NORMAL`
form. -/
inductive DisasmBlock where
  | void (hdr : Bool) (r g b a : Nat)
  | normal (n : DisasmNormal)
deriving DecidableEq, Repr

/-- The whole-block checks of a normal block (`47_block_assembler.md` R306 to R311). -/
def normalChecks (cfg : BitVec 6) (bm : BlockModeInfo) (nv : NormalValues) : Bool :=
  decide (weightCount bm ≤ 64) && decide (24 ≤ weightBits bm) && decide (weightBits bm ≤ 96)
    && decide (bm.gridW ≤ blockW cfg) && decide (bm.gridH ≤ blockH cfg)
    && !(nv.nparts == 4 && bm.isDualPlane) && decide (nv.ncev ≤ 18)
    && decide ((ceilDiv (13 * nv.ncev) 5 : Nat) ≤ nv.ncb)

/-- The values of a normal block read from the whole block (`47_block_assembler.md` R305, R310). -/
def blockValues (bm : BlockModeInfo) (blk : Nat) : NormalValues :=
  let n := getBits blk 11 12 + 1
  let single := n == 1 || getBits blk 23 24 == 0
  normalValues bm n single (decodeCems blk n (extraPos n single (weightBits bm))) blk

/-- The checks of a void-extent block (`47_block_assembler.md` R302). -/
def voidChecks (cfg : BitVec 6) (blk : Nat) : Bool :=
  let hdr := isBitSet blk 9
  let extent (low high : Nat) := BitVec.ofNat 13 (getBits blk low high)
  !(!cfgHdrMode cfg && hdr) && !extentsBad (extent 12 24) (extent 25 37) (extent 38 50) (extent 51 63)
    && !(hdr && (f16IsInfOrNan (getBits blk 64 79) || f16IsInfOrNan (getBits blk 80 95)
      || f16IsInfOrNan (getBits blk 96 111) || f16IsInfOrNan (getBits blk 112 127)))

/-- The members of the `VOID` form of a void-extent block (`30_encoding.md` R72, R84). -/
def disassembleVoid (blk : Nat) : DisasmBlock :=
  .void (isBitSet blk 9) (getBits blk 64 79) (getBits blk 80 95) (getBits blk 96 111) (getBits blk 112 127)

/-- The members of the `NORMAL` form of a normal block with a given block mode (R84). -/
def disassembleNormal (bm : BlockModeInfo) (blk : Nat) : DisasmNormal :=
  let nv := blockValues bm blk
  { bm := bm
    ccs := nv.ccs
    parts := nv.nparts
    seed := if nv.nparts = 1 then none else some nv.seed
    cem := nv.cem
    shared := nv.nparts != 1 && getBits blk 23 24 == 0
    weights := (weightElems blk bm).map (·.v)
    endpoints := (decodeIse blk (colourCursor nv.nparts nv.ncb.toNat) (colourIseParams nv.ncb.toNat nv.ncev)
      nv.ncev).map (·.v) }

/-- Disassembly, the front half of `DECODE` (R84, R85). R84 does not say what becomes of a block that `DECODE` refuses or
makes an error block of; the model's DESIGN CHOICE is that it has no disassembly (log 25). -/
def disassemble (cfg : BitVec 6) (blk : Block) : Option DisasmBlock :=
  let w := blk.toNat
  let bm := parseBlockMode (getBits w 0 10)
  if cfgDecodeLegal cfg = false ∨ bm.isError = true then none
  else if bm.isVoidExtent then if voidChecks cfg w then some (disassembleVoid w) else none
  else if normalChecks cfg bm (blockValues bm w) then some (.normal (disassembleNormal bm w))
  else none

/-- The written syntax of what disassembly found, its sequences as plain lists (R84, R85). A member the syntax leaves
out is 0, and a shared CEM is written once, as in the spec's examples. -/
def DisasmBlock.written (d : DisasmBlock) : AsmBlock :=
  match d with
  | .void hdr r g b a => .void hdr r g b a
  | .normal n =>
    .normal n.bm.gridW n.bm.gridH n.bm.ise n.bm.isDualPlane (n.ccs.getD 0) n.parts (n.seed.getD 0)
      (if n.shared then n.cem.take 1 else n.cem) n.shared (.plain n.weights) (.plain n.endpoints)

end Sys2Proof.Machine
end

