-- ==== Sys2Proof/Safety.lean ====
section
/-! DEFINITION. What counts as a safe step and a good state: the premises that `70_reset_and_hazards.md` R466 names, the
invariant of the machine, the effects of a command in the terms statements use, and the decode of a whole block as one
function. -/

namespace Sys2Proof.Machine

/-- `Idle`: no command runs (R466). -/
def State.idle (s : State) : Prop := statusBusy s.status = false

/-- `NoFault`: the sticky flag is clear (R466). -/
def State.noFault (s : State) : Prop := statusFault s.status = false

/-- `CfgLegal`: a configuration `DECODE` and `ISVALID` accept (R466). -/
def State.cfgLegal (s : State) : Prop := cfgDecodeLegal s.cfg = true

/-- The outputs that H3 speaks of (R454), but for `RESULT` and `CAUSE`: these come with `DONE` in one read of `STATUS`
(`10_state.md` R23), which is how the host polls. -/
def outputPort (p : Port) : Bool :=
  match p with
  | .blkOutByte _ => true
  | .iseForm _ => true
  | .isePlain _ _ => true
  | .iseTq _ _ => true
  | .iseBits _ _ _ => true
  | .tx _ => true
  | .cmd => false
  | .status => false
  | .cfg => false
  | .blkInByte _ => false
  | .veParams => false
  | .nbParams => false

/-- The host's next action follows H1 to H3 (R454): it writes only while `BUSY` = 0 (H1, H2), and reads no output while
it has not read `DONE` = 1 since its last write to `CMD` (H3; `awaiting`). -/
def actFollows (awaiting : Bool) (s : State) : Bool :=
  match s.host with
  | .write _ _ :: _ => !statusBusy s.status
  | .read p :: _ => !(awaiting && outputPort p)
  | _ => true

/-- Whether, after a step from `s` to `t`, the host has still to read `DONE` = 1 for a command: a write to `CMD` makes it
so; a read of `STATUS` that returns `BUSY` = 0 and `DONE` = 1, a wait that ends, and a reset settle it. -/
def awaitsAfter (awaiting : Bool) (s t : State) : Bool :=
  match s.host with
  | .write .cmd _ :: _ => true
  | .read .status :: _ => awaiting && !(t.readData % 2 == 0 && t.readData / 2 % 2 == 1)
  | .waitDone :: _ => awaiting && statusBusy s.status
  | .reset :: _ => false
  | _ => awaiting

/-- The host follows H1 to H3 for the next `n` steps. -/
def followsFor : Nat → Bool → State → Bool
  | 0, _, _ => true
  | n + 1, awaiting, s =>
    actFollows awaiting s
      && (match step s with
        | .next t => followsFor n (awaitsAfter awaiting s t) t
        | .fault _ => true
        | .refused _ => true)

/-- `Protocol`: the host follows H1 to H3 on its whole run from this state (R466, R454; log 22). A command that runs at
the start counts as one whose end the host has still to read. -/
def State.protocol (s : State) : Prop := ∀ n, followsFor n (statusBusy s.status) s = true

/-- `BUSY` and `DONE` are never both set (`70_reset_and_hazards.md` R450). -/
def statusWf (st : BitVec 8) : Bool := !(statusBusy st && statusDone st)

/-- `CAUSE` is one of the codes 0 to 13 (`60_exceptions.md` R401), `RESULT` is 1 exactly when it is not 0
(`47_block_assembler.md` R328). -/
def causeWf (st : BitVec 8) : Bool := decide (statusCause st ≤ 13) && (statusResult st == (statusCause st != 0))

/-- The phase agrees with `BUSY`: a step of a command is pending exactly while `BUSY` = 1 (R450). -/
def phaseWf (s : State) : Bool := statusBusy s.status == (s.phase != .idle)

/-- The per-command values exist only while a command runs (`10_state.md` R38, R41), and `CMD` reads 0 between commands
(R22). -/
def innerWf (s : State) : Bool :=
  (s.phase != .idle || (s.cmd == 0 && s.blk == 0 && s.bm == BlockModeInfo.empty))

/-- The decode that is under way passed the refusal test (`47_block_assembler.md` R300): its configuration is legal and
`CMD` holds the code of `DECODE` or `ISVALID`. -/
def decodeWf (s : State) : Bool :=
  match s.phase with
  | .idle => true
  | .command => true
  | .blockMode => cfgDecodeLegal s.cfg && (s.cmd == 1 || s.cmd == 2)
  | .endpoint => cfgDecodeLegal s.cfg && (s.cmd == 1 || s.cmd == 2)

/-- At the partition and CEM fields the block mode has passed the checks of `47_block_assembler.md` R301 to R308. -/
def modeWf (s : State) : Bool :=
  match s.phase with
  | .endpoint =>
    !s.bm.isError && !s.bm.isVoidExtent && decide (weightCount s.bm ≤ 64) && decide (24 ≤ weightBits s.bm)
      && decide (weightBits s.bm ≤ 96) && decide (s.bm.gridW ≤ blockW s.cfg) && decide (s.bm.gridH ≤ blockH s.cfg)
  | _ => true

/-- The invariant of the machine. -/
def State.Inv (s : State) : Prop :=
  Memory.wf s.tx = true ∧ statusWf s.status = true ∧ causeWf s.status = true ∧ phaseWf s = true ∧ innerWf s = true
    ∧ decodeWf s = true ∧ modeWf s = true

/-! ### Effects of a command -/

/-- How many bytes one texel takes in `TX` (`20_memory.md` R55, R56). -/
def texelWidth (cfg : BitVec 6) : Nat := if cfgSrgb cfg then 4 else 16

/-- Texel `i` of `TX` holds the four channels of `t`. -/
def State.holdsTexel (s : State) (cfg : BitVec 6) (i : Nat) (t : Rgba) : Prop :=
  ∀ k < texelWidth cfg, s.tx.read (texelWidth cfg * i + k) = (texelBytes (cfgSrgb cfg) t)[k]?

/-- From `s` to `t` no byte of `TX` beyond the footprint has changed (`20_memory.md` R57). -/
def keepsTxBeyond (s t : State) : Prop :=
  ∀ a, texelWidth s.cfg * texelCount s.cfg ≤ a → t.tx.read a = s.tx.read a

/-- From `s` to `t` a command has ended with a cause: the fields of `STATUS` are those of `10_state.md` R23 for it, the
values inside the command are gone, and every other register is as it was; `TX` is not spoken of. -/
def endedAs (s t : State) (cause : Cause) (raiseFault : Bool) : Prop :=
  t = { s with status := t.status, cmd := 0, phase := .idle, blk := 0, bm := BlockModeInfo.empty, tx := t.tx }
    ∧ statusBusy t.status = false ∧ statusDone t.status = true ∧ statusResult t.status = decide (cause ≠ .none)
    ∧ statusCause t.status = cause.code ∧ statusFault t.status = (statusFault s.status || raiseFault)

/-- From `s` to `t` a decode has ended with a cause and a colour for each texel of the footprint; every other byte of
`TX` is as it was, and all of them are where texel writes are suppressed. -/
def decodedAs (s t : State) (cause : Cause) (raiseFault : Bool) (texel : Nat → Nat → Rgba) : Prop :=
  endedAs s t cause raiseFault
    ∧ (if writesTx s then
        (∀ tx < blockW s.cfg, ∀ ty < blockH s.cfg, t.holdsTexel s.cfg (ty * blockW s.cfg + tx) (texel tx ty))
          ∧ keepsTxBeyond s t
      else t.tx = s.tx)

/-- A block mode passes the checks of `47_block_assembler.md` R306 to R308. -/
def modeFits (cfg : BitVec 6) (bm : BlockModeInfo) : Bool :=
  decide (weightCount bm ≤ 64) && decide (24 ≤ weightBits bm) && decide (weightBits bm ≤ 96)
    && decide (bm.gridW ≤ blockW cfg) && decide (bm.gridH ≤ blockH cfg)

/-- The colour data has room for the smallest range (R311). -/
def colourFits (bm : BlockModeInfo) (n : Nat) (single : Bool) (ncev : Nat) : Prop :=
  (ceilDiv (13 * ncev) 5 : Nat) ≤ colourBits n single bm.isDualPlane (weightBits bm)

/-- The bits of a one-partition block above its block mode (`30_encoding.md` R73). -/
def singleBits (cem : Nat) (data : BitVec 111) : Nat := cem * 2 ^ 13 + data.toNat * 2 ^ 17

/-- The bits of a block of `n` partitions with a shared CEM, above its block mode (R73). -/
def sharedBits (n cem : Nat) (seed : BitVec 10) (data : BitVec 99) : Nat :=
  (n - 1) * 2 ^ 11 + seed.toNat * 2 ^ 13 + cem * 2 ^ 25 + data.toNat * 2 ^ 29

/-- The bits of a block of `n` partitions with independent CEMs, above its block mode (R73). -/
def independentBits (n sel : Nat) (seed : BitVec 10) (str4 : BitVec 4) (data : BitVec 99) : Nat :=
  (n - 1) * 2 ^ 11 + seed.toNat * 2 ^ 13 + sel * 2 ^ 23 + str4.toNat * 2 ^ 25 + data.toNat * 2 ^ 29

/-- The texel function of a normal block (`47_block_assembler.md` R318) with the given formulas. -/
def texelOf (nv : NormalValues) (formulas : List (List Nat → EndpointPair)) (blk : Nat) (bm : BlockModeInfo)
    (cfg : BitVec 6) : Nat → Nat → Rgba :=
  fun tx ty => normalTexel nv (endpointPairs nv formulas blk) (unquantWeights blk bm) bm cfg tx ty

/-! ### The decode of a whole block as one function (`47_block_assembler.md` R300) -/

/-- What a decode reports: its cause and the colour of each texel. -/
abbrev DecodeOutcome := Cause × (Nat → Nat → Rgba)

/-- The error block (R304). -/
def errorOutcome (cfg : BitVec 6) (cause : Cause) : DecodeOutcome := (cause, fun _ _ => errorColour (cfgSrgb cfg))

/-- `void_extent()` of R302 and R303, from the bits of the block. -/
def voidOutcome (cfg : BitVec 6) (blk : Nat) : DecodeOutcome :=
  let hdr := isBitSet blk 9
  let minS := getBits blk 12 24
  let maxS := getBits blk 25 37
  let minT := getBits blk 38 50
  let maxT := getBits blk 51 63
  let c (k : Nat) := getBits blk (64 + 16 * k) (79 + 16 * k)
  let ch (k : Nat) := voidChannel (cfgSrgb cfg) hdr (c k)
  if cfgHdrMode cfg = false ∧ hdr = true then errorOutcome cfg .veHdrInLdr
  else if ¬ (minS = 0x1FFF ∧ maxS = 0x1FFF ∧ minT = 0x1FFF ∧ maxT = 0x1FFF) ∧ (maxS ≤ minS ∨ maxT ≤ minT) then
    errorOutcome cfg .veExtent
  else if hdr = true ∧ (f16IsInfOrNan (c 0) || f16IsInfOrNan (c 1) || f16IsInfOrNan (c 2) || f16IsInfOrNan (c 3)) then
    errorOutcome cfg .veInfNan
  else (.none, fun _ _ => ⟨ch 0, ch 1, ch 2, ch 3⟩)

/-- `normal_block()` of R305 to R328, from the bits of the block. -/
def normalOutcome (cfg : BitVec 6) (bm : BlockModeInfo) (blk : Nat) : DecodeOutcome :=
  let nv := blockValues bm blk
  if 64 < weightCount bm then errorOutcome cfg .weightCount
  else if weightBits bm < 24 ∨ 96 < weightBits bm then errorOutcome cfg .weightBits
  else if blockW cfg < bm.gridW ∨ blockH cfg < bm.gridH then errorOutcome cfg .gridSize
  else if nv.nparts = 4 ∧ bm.isDualPlane = true then errorOutcome cfg .dual4Part
  else if 18 < nv.ncev then errorOutcome cfg .cevCount
  else if nv.ncb < (ceilDiv (13 * nv.ncev) 5 : Nat) then errorOutcome cfg .cevBits
  else (normalCause nv cfg, texelOf nv (nv.cem.map endpointFormula) blk bm cfg)

/-- The decode of a block (R300). -/
def decodeOutcome (cfg : BitVec 6) (blk : Block) : DecodeOutcome :=
  let bm := parseBlockMode (getBits blk.toNat 0 10)
  if bm.isError then errorOutcome cfg .reservedMode
  else if bm.isVoidExtent then voidOutcome cfg blk.toNat
  else normalOutcome cfg bm blk.toNat

/-! ### The values of the float patterns -/

/-- The magnitude of a finite binary16 pattern, times 2^24 (`47_block_assembler.md` R330). -/
def f16Magnitude (h : Nat) : Nat :=
  if getBits h 10 14 = 0 then getBits h 0 9 else (1024 + getBits h 0 9) * 2 ^ (getBits h 10 14 - 1)

/-- The magnitude of a binary32 pattern, times 2^47: 0 for a zero, and for a pattern that is normal and at least 2^-24.
-/
def f32Magnitude (w : Nat) : Nat :=
  if getBits w 0 30 = 0 then 0 else (2 ^ 23 + getBits w 0 22) * 2 ^ (getBits w 23 30 - 103)

/-! ### The host's view -/

/-- The width of a port in bits. -/
def portWidth (p : Port) : Nat :=
  match p with
  | .cmd => 3
  | .status => 8
  | .cfg => 6
  | .blkInByte _ => 8
  | .blkOutByte _ => 8
  | .veParams => 65
  | .nbParams => 45
  | .iseForm _ => 1
  | .isePlain _ _ => 8
  | .iseTq _ _ => 8
  | .iseBits _ _ _ => 8
  | .tx _ => 8

/-- The ports a host write sets to the value written: not `CMD`, which starts a command, and not the read-only ones. -/
def portSettable (p : Port) : Bool :=
  match p with
  | .cmd => false
  | .status => false
  | .blkOutByte _ => false
  | _ => true

/-- The ports that keep their value while a command runs (`70_reset_and_hazards.md` R453). -/
def portSteady (p : Port) : Bool :=
  match p with
  | .cfg => true
  | .blkInByte _ => true
  | .veParams => true
  | .nbParams => true
  | _ => false

/-! ### The rows of the opcode table, by name, with what distinguishes them -/

/-- The one-partition rows: CEM, formula, instruction. -/
def singleRows : List (Nat × (List Nat → EndpointPair) × (BitVec 111 → Instr)) :=
  [(0, ldrLumDirect, .cem0LdrLumDirect), (1, ldrLumBaseOffset, .cem1LdrLumBaseOffset),
   (2, hdrLumLarge, .cem2HdrLumLarge), (3, hdrLumSmall, .cem3HdrLumSmall), (4, ldrLumaDirect, .cem4LdrLumaDirect),
   (5, ldrLumaBaseOffset, .cem5LdrLumaBaseOffset), (6, ldrRgbBaseScale, .cem6LdrRgbBaseScale),
   (7, hdrRgbBaseScale, .cem7HdrRgbBaseScale), (8, ldrRgbDirect, .cem8LdrRgbDirect),
   (9, ldrRgbBaseOffset, .cem9LdrRgbBaseOffset), (10, ldrRgbBaseScale2a, .cem10LdrRgbBaseScale2a),
   (11, hdrRgbDirect, .cem11HdrRgbDirect), (12, ldrRgbaDirect, .cem12LdrRgbaDirect),
   (13, ldrRgbaBaseOffset, .cem13LdrRgbaBaseOffset), (14, hdrRgbLdrAlpha, .cem14HdrRgbLdrAlpha),
   (15, hdrRgbHdrAlpha, .cem15HdrRgbHdrAlpha)]

/-- The shared-CEM rows whose value count is at most 18: partitions, CEM, formula, instruction. -/
def sharedRows : List (Nat × Nat × (List Nat → EndpointPair) × (BitVec 10 → BitVec 99 → Instr)) :=
  [(2, 0, ldrLumDirect, .p2SharedCem0LdrLumDirect), (2, 1, ldrLumBaseOffset, .p2SharedCem1LdrLumBaseOffset),
   (2, 2, hdrLumLarge, .p2SharedCem2HdrLumLarge), (2, 3, hdrLumSmall, .p2SharedCem3HdrLumSmall),
   (2, 4, ldrLumaDirect, .p2SharedCem4LdrLumaDirect), (2, 5, ldrLumaBaseOffset, .p2SharedCem5LdrLumaBaseOffset),
   (2, 6, ldrRgbBaseScale, .p2SharedCem6LdrRgbBaseScale), (2, 7, hdrRgbBaseScale, .p2SharedCem7HdrRgbBaseScale),
   (2, 8, ldrRgbDirect, .p2SharedCem8LdrRgbDirect), (2, 9, ldrRgbBaseOffset, .p2SharedCem9LdrRgbBaseOffset),
   (2, 10, ldrRgbBaseScale2a, .p2SharedCem10LdrRgbBaseScale2a), (2, 11, hdrRgbDirect, .p2SharedCem11HdrRgbDirect),
   (2, 12, ldrRgbaDirect, .p2SharedCem12LdrRgbaDirect), (2, 13, ldrRgbaBaseOffset, .p2SharedCem13LdrRgbaBaseOffset),
   (2, 14, hdrRgbLdrAlpha, .p2SharedCem14HdrRgbLdrAlpha), (2, 15, hdrRgbHdrAlpha, .p2SharedCem15HdrRgbHdrAlpha),
   (3, 0, ldrLumDirect, .p3SharedCem0LdrLumDirect), (3, 1, ldrLumBaseOffset, .p3SharedCem1LdrLumBaseOffset),
   (3, 2, hdrLumLarge, .p3SharedCem2HdrLumLarge), (3, 3, hdrLumSmall, .p3SharedCem3HdrLumSmall),
   (3, 4, ldrLumaDirect, .p3SharedCem4LdrLumaDirect), (3, 5, ldrLumaBaseOffset, .p3SharedCem5LdrLumaBaseOffset),
   (3, 6, ldrRgbBaseScale, .p3SharedCem6LdrRgbBaseScale), (3, 7, hdrRgbBaseScale, .p3SharedCem7HdrRgbBaseScale),
   (3, 8, ldrRgbDirect, .p3SharedCem8LdrRgbDirect), (3, 9, ldrRgbBaseOffset, .p3SharedCem9LdrRgbBaseOffset),
   (3, 10, ldrRgbBaseScale2a, .p3SharedCem10LdrRgbBaseScale2a), (3, 11, hdrRgbDirect, .p3SharedCem11HdrRgbDirect),
   (4, 0, ldrLumDirect, .p4SharedCem0LdrLumDirect), (4, 1, ldrLumBaseOffset, .p4SharedCem1LdrLumBaseOffset),
   (4, 2, hdrLumLarge, .p4SharedCem2HdrLumLarge), (4, 3, hdrLumSmall, .p4SharedCem3HdrLumSmall),
   (4, 4, ldrLumaDirect, .p4SharedCem4LdrLumaDirect), (4, 5, ldrLumaBaseOffset, .p4SharedCem5LdrLumaBaseOffset),
   (4, 6, ldrRgbBaseScale, .p4SharedCem6LdrRgbBaseScale), (4, 7, hdrRgbBaseScale, .p4SharedCem7HdrRgbBaseScale)]

/-- The shared-CEM rows whose value count is above 18. -/
def crowdedRows : List (Nat × Nat × (List Nat → EndpointPair) × (BitVec 10 → BitVec 99 → Instr)) :=
  [(3, 12, ldrRgbaDirect, .p3SharedCem12LdrRgbaDirect), (3, 13, ldrRgbaBaseOffset, .p3SharedCem13LdrRgbaBaseOffset),
   (3, 14, hdrRgbLdrAlpha, .p3SharedCem14HdrRgbLdrAlpha), (3, 15, hdrRgbHdrAlpha, .p3SharedCem15HdrRgbHdrAlpha),
   (4, 8, ldrRgbDirect, .p4SharedCem8LdrRgbDirect), (4, 9, ldrRgbBaseOffset, .p4SharedCem9LdrRgbBaseOffset),
   (4, 10, ldrRgbBaseScale2a, .p4SharedCem10LdrRgbBaseScale2a), (4, 11, hdrRgbDirect, .p4SharedCem11HdrRgbDirect),
   (4, 12, ldrRgbaDirect, .p4SharedCem12LdrRgbaDirect), (4, 13, ldrRgbaBaseOffset, .p4SharedCem13LdrRgbaBaseOffset),
   (4, 14, hdrRgbLdrAlpha, .p4SharedCem14HdrRgbLdrAlpha), (4, 15, hdrRgbHdrAlpha, .p4SharedCem15HdrRgbHdrAlpha)]

/-- The independent-CEM rows whose value count can be at most 18 (all but four partitions with `SEL` = 3): partitions,
`SEL`, instruction. -/
def independentRows : List (Nat × Nat × (BitVec 10 → BitVec 4 → BitVec 99 → Instr)) :=
  [(2, 1, .p2IndepSel1), (2, 2, .p2IndepSel2), (2, 3, .p2IndepSel3), (3, 1, .p3IndepSel1), (3, 2, .p3IndepSel2),
   (3, 3, .p3IndepSel3), (4, 1, .p4IndepSel1), (4, 2, .p4IndepSel2)]

/-- The rows of layouts 0 to 4: the grid `(W, H)` from `b` and `a`, `r2 r1`, instruction. -/
def gridRowsBA : List ((Nat → Nat → Nat × Nat) × Nat × (Bool → Bool → Nat → Nat → Bool → Instr)) :=
  [(fun b a => (b + 4, a + 2), 1, .modeL0R1), (fun b a => (b + 4, a + 2), 2, .modeL0R2),
   (fun b a => (b + 4, a + 2), 3, .modeL0R3), (fun b a => (b + 8, a + 2), 1, .modeL1R1),
   (fun b a => (b + 8, a + 2), 2, .modeL1R2), (fun b a => (b + 8, a + 2), 3, .modeL1R3),
   (fun b a => (a + 2, b + 8), 1, .modeL2R1), (fun b a => (a + 2, b + 8), 2, .modeL2R2),
   (fun b a => (a + 2, b + 8), 3, .modeL2R3), (fun b a => (a + 2, b + 6), 1, .modeL3R1),
   (fun b a => (a + 2, b + 6), 2, .modeL3R2), (fun b a => (a + 2, b + 6), 3, .modeL3R3),
   (fun b a => (b + 2, a + 2), 1, .modeL4R1), (fun b a => (b + 2, a + 2), 2, .modeL4R2),
   (fun b a => (b + 2, a + 2), 3, .modeL4R3)]

/-- The rows of layouts 5 and 6: the grid from `a`, `r2 r1`, instruction. -/
def gridRowsA : List ((Nat → Nat × Nat) × Nat × (Bool → Bool → Nat → Bool → Instr)) :=
  [(fun a => (12, a + 2), 1, .modeL5R1), (fun a => (12, a + 2), 2, .modeL5R2), (fun a => (12, a + 2), 3, .modeL5R3),
   (fun a => (a + 2, 12), 1, .modeL6R1), (fun a => (a + 2, 12), 2, .modeL6R2), (fun a => (a + 2, 12), 3, .modeL6R3)]

/-- The rows of layouts 7 and 8 that can pass the weight checks: the grid, `r2 r1`, instruction. -/
def gridRowsConst : List ((Nat × Nat) × Nat × (Bool → Bool → Bool → Instr)) :=
  [((6, 10), 1, .modeL7R1), ((10, 6), 1, .modeL8R1)]

/-- The rows of layouts 7 and 8 whose sixty weights of two or more bits never fit. -/
def gridRowsHeavy : List (Bool → Bool → Bool → Instr) := [.modeL7R2, .modeL7R3, .modeL8R2, .modeL8R3]

/-- The rows of layout 9: the grid from `b` and `a`, `r2 r1`, instruction. -/
def gridRowsWide : List ((Nat → Nat → Nat × Nat) × Nat × (Nat → Nat → Bool → Instr)) :=
  [(fun b a => (a + 6, b + 6), 1, .modeL9R1), (fun b a => (a + 6, b + 6), 2, .modeL9R2),
   (fun b a => (a + 6, b + 6), 3, .modeL9R3)]

end Sys2Proof.Machine
end

