-- ==== Sys2Proof/Certificates/Slice0/Obligations.lean ====
section
/-! DEFINITION. The statements for the provers. Each says what its docstring says, for the rules of `spec/` that
OBLIGATIONS.json cites. -/

open Sys2Proof Sys2Proof.Machine

/-- Decoding an encoded well-formed instruction gives it back. For every well-formed instruction, with every operand
at every value its encoding admits, decoding its encoded bytes in its own space gives the instruction back. -/
def Obligations.EncodeDecodeRoundTrip : Prop :=
  ∀ i : Instr, i.wellFormed = true → decode i.space (encode i) = .ok i

/-- The instruction decoded from a block has the fixed bits of its table row. For every block, the block-mode
instruction and the CEM instruction decoded from it have rows whose masked bits are those of the block, and each is an
instruction of its own space. -/
def Obligations.EveryBlockMatchesItsRow : Prop :=
  ∀ blk : Block,
    (decodeBlockMode blk).space = .blockMode ∧ (decodeEndpoint blk).space = .endpoint
    ∧ blk.toNat &&& (decodeBlockMode blk).row.1 = (decodeBlockMode blk).row.2
    ∧ blk.toNat &&& (decodeEndpoint blk).row.1 = (decodeEndpoint blk).row.2

/-- No block matches two rows of one space. If a block has the fixed bits of a block-mode row, the decoder reads that
row; the same for the partition and CEM rows. -/
def Obligations.RowsDoNotOverlap : Prop :=
  ∀ (blk : Block) (i : Instr), blk.toNat &&& i.row.1 = i.row.2 →
    (i.space = .blockMode → (decodeBlockMode blk).row = i.row)
    ∧ (i.space = .endpoint → (decodeEndpoint blk).row = i.row)

/-- Words written out from the encoding tables decode to their instructions. Seven words written out from the spec: a
void-extent block, two block modes, a reserved mode, a one-partition CEM, an independent-CEM block and a command. -/
def Obligations.WrittenWordsDecode : Prop :=
  decode .blockMode [0xFC, 0xFD, 0xFF, 0xFF, 0xFF, 0xFF, 0xFF, 0xFF, 0x34, 0x12, 0, 0x80, 0xFF, 0xFF, 0, 0]
        = .ok (.voidExtent false 3 0x1FFF 0x1FFF 0x1FFF 0x1FFF 0x1234 0x8000 0xFFFF 0)
    ∧ decodeBlockMode 0x042 = .modeL0R2 false false 0 2 false
    ∧ decodeBlockMode 0x66F = .modeL3R3 true true 0 3 false
    ∧ decodeBlockMode 0x1DC = .reserved111_11_01 0
    ∧ decodeEndpoint 0x10042 = .cem8LdrRgbDirect 0
    ∧ decodeEndpoint 0x0080A842 = .p2IndepSel1 5 0 0
    ∧ decode .command [4] = .ok .encNormal

/-- A codec step runs the instruction decoded from the bytes of its phase. The bytes fetched are the command code, or
the sixteen bytes of the latched block. When they decode to an instruction, a step with no host action left runs it at
that state, a tick runs it after taking the tick, and a wait runs it, and stays, while BUSY is 1. The host's list with
its tick and wait (log 1, DESIGN CHOICE) and the division of a command into steps with a phase (log 2, DEDUCED) are
the model's choice; the order of the steps is R300's. -/
def Obligations.StepRunsTheFetchedInstruction : Prop :=
  ∀ (s : State) (sp : Space) (bytes : List Byte) (i : Instr),
    fetchBytes s = some (sp, bytes) → decode sp bytes = .ok i →
    ((sp = .command ∧ s.phase = .command ∧ bytes = [s.cmd.setWidth 8])
      ∨ (sp = .blockMode ∧ s.phase = .blockMode ∧ bytes = bytesOfBlock s.blk)
      ∨ (sp = .endpoint ∧ s.phase = .endpoint ∧ bytes = bytesOfBlock s.blk))
    ∧ (s.host = [] → step s = exec i s)
    ∧ (∀ rest, s.host = .tick :: rest → step s = exec i { s with host := rest })
    ∧ (∀ rest, s.host = .waitDone :: rest → statusBusy s.status = true → step s = exec i s)

/-- Each block-mode row acts as parse_block_mode says. For every block and state: the row decoded from the block ends
in a reserved-mode error block when the parser says error, does what the void-extent row does with the fields of the
block when it says void-extent, and otherwise makes the checks of R306 to R308 on exactly the record the parser
returns. -/
def Obligations.BlockModeRowsFollowTheParser : Prop :=
  ∀ (blk : Block) (s : State),
    let bm := parseBlockMode (getBits blk.toNat 0 10)
    exec (decodeBlockMode blk) s
      = if bm.isError then errorBlock .reservedMode s
        else if bm.isVoidExtent then exec (decodeVoidExtent blk.toNat) s
        else acceptMode bm s

/-- The block-mode writer and the parser are inverse to each other. (a) Every normal mode is what the writer makes of
what the parser reads from it. (b) Whatever the writer makes from a grid, weight parameters and a dual flag parses
back to them, and it makes a value whenever the preconditions of R174 hold: one of the twelve ranges, a layout with
the grid, and in layout 9 one plane and a range of at most 7. (c) The writer never makes a void-extent or reserved
value, and the value has 11 bits. -/
def Obligations.BlockModeInverses : Prop :=
  (∀ m < 2048, (parseBlockMode m).isError = false → (parseBlockMode m).isVoidExtent = false →
      writeBlockMode (parseBlockMode m).gridW (parseBlockMode m).gridH (parseBlockMode m).ise
        (parseBlockMode m).isDualPlane = some m)
    ∧ (∀ (w h : Nat) (ise : IseParams) (dual : Bool) (m : Nat), writeBlockMode w h ise dual = some m →
        m < 2048 ∧ (parseBlockMode m).isError = false ∧ (parseBlockMode m).isVoidExtent = false
        ∧ (parseBlockMode m).gridW = w ∧ (parseBlockMode m).gridH = h ∧ (parseBlockMode m).ise = ise
        ∧ (parseBlockMode m).isDualPlane = dual)
    ∧ (∀ (w h : Nat) (ise : IseParams) (dual : Bool), iseRangeMax ise ∈ [1, 2, 3, 4, 5, 7, 9, 11, 15, 19, 23, 31] →
        (layoutOf w h).isSome = true → (layoutOf w h = some 9 → dual = false ∧ iseRangeMax ise ≤ 7) →
        (writeBlockMode w h ise dual).isSome = true)

/-- Each of the six reserved rows ends the decode in an error block, whatever its free bits. For RESERVED_LOW4_ZERO,
RESERVED_111_01, RESERVED_111_10, RESERVED_111_11_00, RESERVED_111_11_01 and RESERVED_111_11_10, every operand and
every state: the instruction ends the command with cause RESERVED_MODE, FAULT kept, every texel of the footprint the
error colour (no texel written in ISVALID), and nothing else changed. -/
def Obligations.ReservedRowsAreErrorBlocks : Prop :=
  ∀ (x : BitVec 7) (hi lo : BitVec 2) (s : State) (i : Instr),
    i ∈ [Instr.reservedLow4Zero x, .reserved111_01 hi lo, .reserved111_10 hi lo, .reserved111_11_00 hi,
      .reserved111_11_01 hi, .reserved111_11_10 hi] →
    ∃ t, exec i s = .next t
      ∧ decodedAs s t .reservedMode false (fun _ _ => errorColour (cfgSrgb s.cfg))

/-- Each of the twenty-six normal block-mode rows that can fit hands its grid and weight parameters on. For every
normal row by name but the four heavy ones of layouts 7 and 8, every operand and every state in which the mode passes
the checks of R306 to R308: the instruction records the layout's grid, the weight parameters of (r, h) and the dual-
plane flag (none of the flags in layout 9) and goes on to the partition and CEM fields; nothing else changes. The
grid, the parameters and the checks are the spec's; that the decode then stands in a state of its own, the mode
recorded and the partition and CEM fields next, is the model's division of a command into steps (log 2, DEDUCED). -/
def Obligations.GridRowsAccepted : Prop :=
  (∀ row ∈ gridRowsBA, ∀ (d h : Bool) (b a : Nat) (r0 : Bool) (s : State),
      let bm := gridMode (row.1 b a).1 (row.1 b a).2 (2 * row.2.1 + r0.toNat) d h
      modeFits s.cfg bm = true → exec (row.2.2 d h b a r0) s = .next { s with phase := .endpoint, bm := bm })
    ∧ (∀ row ∈ gridRowsA, ∀ (d h : Bool) (a : Nat) (r0 : Bool) (s : State),
      let bm := gridMode (row.1 a).1 (row.1 a).2 (2 * row.2.1 + r0.toNat) d h
      modeFits s.cfg bm = true → exec (row.2.2 d h a r0) s = .next { s with phase := .endpoint, bm := bm })
    ∧ (∀ row ∈ gridRowsConst, ∀ (d h r0 : Bool) (s : State),
      let bm := gridMode row.1.1 row.1.2 (2 * row.2.1 + r0.toNat) d h
      modeFits s.cfg bm = true → exec (row.2.2 d h r0) s = .next { s with phase := .endpoint, bm := bm })
    ∧ (∀ row ∈ gridRowsWide, ∀ (b a : Nat) (r0 : Bool) (s : State),
      let bm := gridMode (row.1 b a).1 (row.1 b a).2 (2 * row.2.1 + r0.toNat) false false
      modeFits s.cfg bm = true → exec (row.2.2 b a r0) s = .next { s with phase := .endpoint, bm := bm })

/-- The rows of layouts 7 and 8 with two or more bits a weight always end in an error block. MODE_L7_R2, MODE_L7_R3,
MODE_L8_R2 and MODE_L8_R3 have sixty weights of at least two bits each: on every operand and state they end in an
error block, with cause WEIGHT_COUNT with two planes (120 weights) and WEIGHT_BITS with one (more than 96 bits). -/
def Obligations.HeavyGridRowsAreErrorBlocks : Prop :=
  ∀ row ∈ gridRowsHeavy, ∀ (d h r0 : Bool) (s : State),
    ∃ t, exec (row d h r0) s = .next t
      ∧ decodedAs s t (if d = true then .weightCount else .weightBits) false (fun _ _ => errorColour (cfgSrgb s.cfg))

/-- The checks on a block mode are made in the order of R306 to R308. A mode with more than 64 weights is an error
block with cause WEIGHT_COUNT; else one with fewer than 24 or more than 96 weight bits has cause WEIGHT_BITS; else one
whose grid exceeds the footprint has cause GRID_SIZE. FAULT is kept. A mode that passes is recorded and the partition
and CEM fields come next: that this is a state of its own is the model's division of a command into steps (log 2,
DEDUCED). -/
def Obligations.ModeChecksInOrder : Prop :=
  ∀ (bm : BlockModeInfo) (s : State), ∃ t, acceptMode bm s = .next t ∧
    (let bad := fun c => decodedAs s t c false (fun _ _ => errorColour (cfgSrgb s.cfg))
     if 64 < weightCount bm then bad .weightCount
     else if weightBits bm < 24 ∨ 96 < weightBits bm then bad .weightBits
     else if blockW s.cfg < bm.gridW ∨ blockH s.cfg < bm.gridH then bad .gridSize
     else t = { s with phase := .endpoint, bm := bm })

/-- A valid void-extent block gives every texel its colour. VOID_EXTENT completes with cause NONE when it is not an
HDR block in LDR mode, its extents are all-ones or strictly ordered, and an HDR block has no infinity and no NaN:
every texel of the footprint gets the four channels, by the high byte on the sRGB path, by the binary16 conversion for
an HDR block and by the UNORM16 conversion otherwise. Bits 11:10 have no influence. Nothing else changes. -/
def Obligations.VoidExtentDecodes : Prop :=
  ∀ (d : Bool) (rsv : BitVec 2) (minS maxS minT maxT : BitVec 13) (cr cg cb ca : BitVec 16) (s : State),
    (d = true → cfgHdrMode s.cfg = true) →
    ((minS = 0x1FFF ∧ maxS = 0x1FFF ∧ minT = 0x1FFF ∧ maxT = 0x1FFF)
      ∨ (minS.toNat < maxS.toNat ∧ minT.toNat < maxT.toNat)) →
    (d = true → ∀ c ∈ [cr, cg, cb, ca], getBits c.toNat 10 14 ≠ 31) →
    ∃ t, exec (.voidExtent d rsv minS maxS minT maxT cr cg cb ca) s = .next t
      ∧ (let ch := fun c : BitVec 16 =>
          if cfgSrgb s.cfg then c.toNat / 256 else if d then f16ToF32 c.toNat else unorm16ToF32 c.toNat
        decodedAs s t .none false (fun _ _ => ⟨ch cr, ch cg, ch cb, ch ca⟩))

/-- The three void-extent errors, in their order. An HDR void-extent block in LDR mode is an error block with cause
VE_HDR_IN_LDR; else extents that are neither all-ones nor strictly ordered give VE_EXTENT; else an HDR block with an
exponent field of 31 gives VE_INF_NAN and sets FAULT. In all three every texel is the error colour. -/
def Obligations.VoidExtentErrors : Prop :=
  ∀ (d : Bool) (rsv : BitVec 2) (minS maxS minT maxT : BitVec 13) (cr cg cb ca : BitVec 16) (s : State),
    ∃ t, exec (.voidExtent d rsv minS maxS minT maxT cr cg cb ca) s = .next t
      ∧ (let bad := fun c f => decodedAs s t c f (fun _ _ => errorColour (cfgSrgb s.cfg))
        if cfgHdrMode s.cfg = false ∧ d = true then bad .veHdrInLdr false
        else if ¬ (minS = 0x1FFF ∧ maxS = 0x1FFF ∧ minT = 0x1FFF ∧ maxT = 0x1FFF)
            ∧ (maxS.toNat ≤ minS.toNat ∨ maxT.toNat ≤ minT.toNat) then bad .veExtent false
        else (d = true ∧ ∃ c ∈ [cr, cg, cb, ca], getBits c.toNat 10 14 = 31) → bad .veInfNan true)

/-- Each one-partition row decodes its texels by the formula of its CEM. For each of the sixteen one-partition rows by
name, every data field and every state whose block mode leaves room for the colour data: the command ends, each texel
of the footprint is the blend of R318 of the endpoints that the row's own formula gives, the cause is NONE or, in LDR
mode with an HDR CEM, HDR_CEM_IN_LDR, FAULT is kept, and nothing else changes. -/
def Obligations.SinglePartitionRowsDecode : Prop :=
  ∀ row ∈ singleRows, ∀ (data : BitVec 111) (s : State),
    let blk := singleBits row.1 data
    let nv := normalValues s.bm 1 true [row.1] blk
    colourFits s.bm 1 true (cemNumValues row.1) →
    ∃ t, exec (row.2.2 data) s = .next t
      ∧ decodedAs s t (normalCause nv s.cfg) false (texelOf nv [row.2.1] blk s.bm s.cfg)

/-- Each shared-CEM row with at most 18 values decodes its texels by the formula of its CEM. For each of the thirty-
six shared-CEM rows by name whose value count is at most 18, every seed and data field and every state whose block
mode leaves room for the colour data and is not dual-plane with four partitions: the command ends with the texels of
R318, each partition using the row's formula on its own values; cause, FAULT and everything else as for one partition.
-/
def Obligations.SharedCemRowsDecode : Prop :=
  ∀ row ∈ sharedRows, ∀ (seed : BitVec 10) (data : BitVec 99) (s : State),
    let n := row.1
    let blk := sharedBits n row.2.1 seed data
    let nv := normalValues s.bm n true (List.replicate n row.2.1) blk
    ¬ (n = 4 ∧ s.bm.isDualPlane = true) → colourFits s.bm n true (n * cemNumValues row.2.1) →
    ∃ t, exec (row.2.2.2 seed data) s = .next t
      ∧ decodedAs s t (normalCause nv s.cfg) false (texelOf nv (List.replicate n row.2.2.1) blk s.bm s.cfg)

/-- Each independent-CEM row decodes its texels by the CEMs it finds. For each of the eight independent-CEM rows by
name that can pass the value count, every operand and every state in which the block passes the checks of R309 to R311
for the CEMs of R194: the command ends with the texels of R318, each partition using the formula of its CEM. -/
def Obligations.IndependentCemRowsDecode : Prop :=
  ∀ row ∈ independentRows, ∀ (seed : BitVec 10) (str4 : BitVec 4) (data : BitVec 99) (s : State),
    let n := row.1
    let blk := independentBits n row.2.1 seed str4 data
    let cems := (List.range n).map
      (fun p => independentCem blk n row.2.1 (extraPos n false (weightBits s.bm)) p)
    let nv := normalValues s.bm n false cems blk
    weightBits s.bm ≤ 96 → ¬ (n = 4 ∧ s.bm.isDualPlane = true) → cemsValueCount cems ≤ 18 →
    colourFits s.bm n false (cemsValueCount cems) →
    ∃ t, exec (row.2.2 seed str4 data) s = .next t
      ∧ decodedAs s t (normalCause nv s.cfg) false (texelOf nv (cems.map endpointFormula) blk s.bm s.cfg)

/-- The CEM rows whose values always exceed 18 end in an error block. The twelve shared-CEM rows with more than 18
values and four partitions with SEL = 3, on every operand and state: an error block, with cause DUAL_4PART where four
partitions meet a dual plane and CEV_COUNT otherwise. -/
def Obligations.CrowdedRowsAreErrorBlocks : Prop :=
  (∀ row ∈ crowdedRows, ∀ (seed : BitVec 10) (data : BitVec 99) (s : State),
      ∃ t, exec (row.2.2.2 seed data) s = .next t
        ∧ decodedAs s t (if row.1 = 4 ∧ s.bm.isDualPlane = true then .dual4Part else .cevCount) false
            (fun _ _ => errorColour (cfgSrgb s.cfg)))
    ∧ (∀ (seed : BitVec 10) (str4 : BitVec 4) (data : BitVec 99) (s : State),
      ∃ t, exec (.p4IndepSel3 seed str4 data) s = .next t
        ∧ decodedAs s t (if s.bm.isDualPlane = true then .dual4Part else .cevCount) false
            (fun _ _ => errorColour (cfgSrgb s.cfg)))

/-- The checks on the partition and CEM fields are made in the order of R309 to R311. Four partitions with a dual
plane are an error block with cause DUAL_4PART; else more than 18 values have cause CEV_COUNT; else too few colour
bits, a negative number among them, have cause CEV_BITS. Such a block is the error colour at every texel (R404;
ISVALID writes no texel). A block that passes is drawn: each texel as R318 draws it, with the cause that R319 and R328
give. FAULT is kept. (For values no block has, a CEM or an endpoint pair beyond the lists is the model's choice, log
15.) -/
def Obligations.EndpointChecksInOrder : Prop :=
  ∀ (nv : NormalValues) (formulas : List (List Nat → EndpointPair)) (blk : Nat) (s : State),
    ∃ t, assembleBlock nv formulas blk s = .next t ∧
    (let bad := fun c => decodedAs s t c false (fun _ _ => errorColour (cfgSrgb s.cfg))
     if nv.nparts = 4 ∧ s.bm.isDualPlane = true then bad .dual4Part
     else if 18 < nv.ncev then bad .cevCount
     else if nv.ncb < (ceilDiv (13 * nv.ncev) 5 : Nat) then bad .cevBits
     else decodedAs s t (normalCause nv s.cfg) false (texelOf nv formulas blk s.bm s.cfg))

/-- Each CEM row acts on the block it was decoded from. For every block and every state whose block mode has at most
96 weight bits: the CEM row decoded from the block makes the checks and texels of R309 to R328 with the partition
count, CEMs, seed, selector, colour data and weights read from the bits of the whole block. -/
def Obligations.EndpointRowsFollowTheBlock : Prop :=
  ∀ (blk : Block) (s : State), weightBits s.bm ≤ 96 →
    exec (decodeEndpoint blk) s
      = assembleBlock (blockValues s.bm blk.toNat) ((blockValues s.bm blk.toNat).cem.map endpointFormula) blk.toNat s

/-- In LDR mode exactly the texels of HDR partitions are in error; every other texel is drawn. A texel is in error
exactly in LDR mode with an HDR CEM in its partition, so none is in HDR mode. A texel in error is the error colour;
every other texel is the blend of R318: the endpoint pair of its partition, its own interpolated weights, the selector
and the CEM of its partition. The cause is HDR_CEM_IN_LDR exactly when some texel of the footprint is in error, and
NONE otherwise. (What stands for the CEM or the pair of a partition beyond the lists is the model's choice, log 15;
R272 keeps every partition below their length.) -/
def Obligations.LdrModeDegradesHdrTexels : Prop :=
  ∀ (nv : NormalValues) (formulas : List (List Nat → EndpointPair)) (blk : Nat) (bm : BlockModeInfo) (cfg : BitVec 6),
    let cemAt := fun tx ty => nv.cem.getD (texelPartition nv cfg tx ty) 0
    let pairAt := fun tx ty =>
      (endpointPairs nv formulas blk).getD (texelPartition nv cfg tx ty) ⟨⟨0, 0, 0, 0⟩, ⟨0, 0, 0, 0⟩, false⟩
    let weightAt := fun tx ty =>
      texelWeight (unquantWeights blk bm) (blockW cfg) (blockH cfg) bm.gridW bm.gridH bm.isDualPlane tx ty
    (∀ tx ty, texelFails nv cfg tx ty = true ↔ cfgHdrMode cfg = false ∧ cemIsHdr (cemAt tx ty) = true)
    ∧ (cfgHdrMode cfg = true → (∀ tx ty, texelFails nv cfg tx ty = false) ∧ normalCause nv cfg = .none)
    ∧ (∀ tx ty, texelFails nv cfg tx ty = true → texelOf nv formulas blk bm cfg tx ty = errorColour (cfgSrgb cfg))
    ∧ (∀ tx ty, texelFails nv cfg tx ty = false →
        texelOf nv formulas blk bm cfg tx ty
          = blendTexel (cfgSrgb cfg) (pairAt tx ty) (weightAt tx ty) nv.ccs (cemAt tx ty))
    ∧ (normalCause nv cfg = .hdrCemInLdr ↔
        ∃ tx < blockW cfg, ∃ ty < blockH cfg, texelFails nv cfg tx ty = true)
    ∧ (normalCause nv cfg = .none ∨ normalCause nv cfg = .hdrCemInLdr)

/-- NOP writes STATUS and nothing else. NOP completes at once: BUSY 0, DONE 1, RESULT 0, CAUSE 0, FAULT kept; no other
register and no TX byte changes. -/
def Obligations.NopCompletes : Prop :=
  ∀ s : State, ∃ t, exec .nop s = .next t
    ∧ t = { s with status := t.status, cmd := 0, phase := .idle, blk := 0, bm := BlockModeInfo.empty }
    ∧ statusBusy t.status = false ∧ statusDone t.status = true ∧ statusResult t.status = false
    ∧ statusCause t.status = 0 ∧ statusFault t.status = statusFault s.status

/-- The reserved commands are refused with CFG_INVALID. RESERVED_6 and RESERVED_7: BUSY 0, DONE 1, RESULT 1, CAUSE 12,
FAULT 1; no other register and no TX byte changes. -/
def Obligations.ReservedCommandsRefused : Prop :=
  ∀ s : State, ∀ i ∈ [Instr.reserved6, .reserved7], ∃ t, exec i s = .next t
    ∧ t = { s with status := t.status, cmd := 0, phase := .idle, blk := 0, bm := BlockModeInfo.empty }
    ∧ statusBusy t.status = false ∧ statusDone t.status = true ∧ statusResult t.status = true
    ∧ statusCause t.status = 12 ∧ statusFault t.status = true

/-- DECODE and ISVALID latch BLK_IN under a legal configuration and are refused under another. With FMT at most 13 and
not both SRGB and HDRMODE, DECODE and ISVALID latch BLK_IN and go on to its block mode, nothing else changing but the
running code; otherwise they are refused with CFG_INVALID and change nothing but STATUS. That the latch is a step of
its own is the model's choice (log 2). -/
def Obligations.DecodeCommandsStart : Prop :=
  ∀ s : State,
    (cfgFmt s.cfg < 14 → ¬ (cfgSrgb s.cfg = true ∧ cfgHdrMode s.cfg = true) →
      exec .decode s = .next { s with cmd := 1, phase := .blockMode, blk := s.blkIn }
      ∧ exec .isvalid s = .next { s with cmd := 2, phase := .blockMode, blk := s.blkIn })
    ∧ (14 ≤ cfgFmt s.cfg ∨ (cfgSrgb s.cfg = true ∧ cfgHdrMode s.cfg = true) →
      exec .decode s = .next (endCommand .cfgInvalid true s) ∧ exec .isvalid s = .next (endCommand .cfgInvalid true s))

/-- DECODE and ISVALID do what the procedure of R300 says of the whole block. For every state, every BLK_IN and every
legal configuration, a started DECODE or ISVALID, once over, has done the whole procedure: STATUS reports the cause
that R300 to R328 give for the block, FAULT is set only by VE_INF_NAN, every texel of the footprint holds the colour
they give (no TX byte is written by ISVALID), no TX byte beyond changes, and no other register changes. That it is
over after three steps is the model's count, not the spec's (log 2, DEDUCED): R300 gives an order and no number. -/
def Obligations.DecodeCommandsFollowTheProcedure : Prop :=
  ∀ (s0 : State) (c : BitVec 3), c = 1 ∨ c = 2 → cfgDecodeLegal s0.cfg = true →
    let s := startCommand c { s0 with host := [] }
    let outcome := decodeOutcome s0.cfg s0.blkIn
    ∃ t, Sys2Proof.core.run 3 s = .next t
      ∧ decodedAs s t outcome.1 (decide (outcome.1 = .veInfNan)) outcome.2

/-- ENC_VOID builds the block of its parameters or is refused. With ISHDR = 0, or no component whose exponent field is
31, ENC_VOID writes BLK_OUT with the sentinel, ISHDR, 3 in bits 11:10, all-ones extents and the colour, ends with
cause NONE, and changes nothing else; otherwise it is refused with ENC_PARAM and changes only STATUS. -/
def Obligations.EncVoidBuildsTheBlock : Prop :=
  ∀ s : State,
    let p := s.veParams
    let inf := fun h => getBits h 10 14 = 31
    let bad := veIsHdr p = true ∧ (inf (veR p) ∨ inf (veG p) ∨ inf (veB p) ∨ inf (veA p))
    (¬ bad → exec .encVoid s = .next (endCommand .none false { s with
      blkOut := BitVec.ofNat 128 (0x1FC + (veIsHdr p).toNat * 2 ^ 9 + 3 * 2 ^ 10 + 0x1FFF * 2 ^ 12 + 0x1FFF * 2 ^ 25
        + 0x1FFF * 2 ^ 38 + 0x1FFF * 2 ^ 51 + veR p * 2 ^ 64 + veG p * 2 ^ 80 + veB p * 2 ^ 96 + veA p * 2 ^ 112) }))
    ∧ (bad → exec .encVoid s = .next (endCommand .encParam true s))

/-- A block built by ENC_VOID decodes to its colour on every footprint. The block of ENC_VOID decodes with cause NONE
to its colour at every texel, for every configuration that allows its dynamic range. -/
def Obligations.EncVoidDecodesBack : Prop :=
  ∀ (p : BitVec 65) (cfg : BitVec 6), voidParamsBad p = false → (veIsHdr p = true → cfgHdrMode cfg = true) →
    (decodeOutcome cfg (voidBlock p)).1 = .none
    ∧ ∀ tx ty, (decodeOutcome cfg (voidBlock p)).2 tx ty
        = ⟨voidChannel (cfgSrgb cfg) (veIsHdr p) (veR p), voidChannel (cfgSrgb cfg) (veIsHdr p) (veG p),
            voidChannel (cfgSrgb cfg) (veIsHdr p) (veB p), voidChannel (cfgSrgb cfg) (veIsHdr p) (veA p)⟩

/-- ENC_NORMAL and GEN_DEFAULT run under R357 and are refused outside it. With FMT 14 or 15 both are refused with
CFG_INVALID; else with parameters that fail L1 to L6 both are refused with ENC_PARAM, and ENC_NORMAL also with ISE
inputs that fail L7 or L8; a refusal changes only STATUS. Otherwise ENC_NORMAL writes BLK_OUT with the block of R358,
and GEN_DEFAULT, which does not look at L7 and L8, writes the two ISE inputs; each ends with cause NONE, FAULT kept,
and changes nothing else. -/
def Obligations.EncodeCommandsCheckLegality : Prop :=
  ∀ s : State,
    (14 ≤ cfgFmt s.cfg → exec .encNormal s = .next (endCommand .cfgInvalid true s)
      ∧ exec .genDefault s = .next (endCommand .cfgInvalid true s))
    ∧ (cfgFmt s.cfg < 14 → legalWeightIse s.cfg s.nbParams = none →
      exec .encNormal s = .next (endCommand .encParam true s)
      ∧ exec .genDefault s = .next (endCommand .encParam true s))
    ∧ (∀ ise, cfgFmt s.cfg < 14 → legalWeightIse s.cfg s.nbParams = some ise →
      exec .encNormal s = .next
        (if inputsInRange (normalParams s.nbParams) ise s.wIseIn s.eIseIn = true then
          endCommand .none false { s with blkOut := normalBlock s.nbParams ise s.wIseIn s.eIseIn }
        else endCommand .encParam true s)
      ∧ ∃ t, exec .genDefault s = .next t
        ∧ t = { endCommand .none false s with wIseIn := t.wIseIn, eIseIn := t.eIseIn }
        ∧ statusBusy t.status = false ∧ statusDone t.status = true ∧ statusResult t.status = false
        ∧ statusCause t.status = 0 ∧ statusFault t.status = statusFault s.status)

/-- The fields of a block built by ENC_NORMAL read back. For every legal parameter set and whatever the ISE inputs,
the block of R358 reads back with the decoder's own functions: the grid, the weight parameters and the dual flag
through the parser, the partition count, the CEM of each partition, the seed of a multi-partition block and the
selector of a dual-plane block. -/
def Obligations.EncNormalFieldsReadBack : Prop :=
  ∀ (cfg : BitVec 6) (v : BitVec 45) (ise : IseParams) (w e : IseInput), legalWeightIse cfg v = some ise →
    let q := normalParams v
    let b := (normalBlock v ise w e).toNat
    parseBlockMode (getBits b 0 10)
        = { isError := false, isVoidExtent := false, isDualPlane := nbDual v, gridW := nbGridW v, gridH := nbGridH v,
            ise := ise }
    ∧ getBits b 11 12 + 1 = q.n
    ∧ decodeCems b q.n (extraPos q.n q.single (q.nwb ise)) = q.cems
    ∧ (q.n ≠ 1 → getBits b 13 22 = nbSeed v)
    ∧ (nbDual v = true → getBits b (q.extra ise - 2) (q.extra ise - 1) = nbCcs v)

/-- The two sequences of a block built by ENC_NORMAL from plain inputs read back. For every legal parameter set with
plain-form inputs in range, the weight elements and the colour elements the decoder reads from the block of R358 are
the plain values. -/
def Obligations.EncNormalSequencesReadBack : Prop :=
  ∀ (cfg : BitVec 6) (v : BitVec 45) (ise : IseParams) (w e : IseInput), legalWeightIse cfg v = some ise →
    inputsInRange (normalParams v) ise w e = true → w.form = .plain → e.form = .plain →
    let q := normalParams v
    let b := (normalBlock v ise w e).toNat
    (decodeIse b (weightCursor (q.nwb ise)) ise q.nw).map (·.v) = (plainValues w).take q.nw
    ∧ (decodeIse b (colourCursor q.n (q.ncb ise).toNat) (q.cise ise) q.ncev).map (·.v) = (plainValues e).take q.ncev

/-- GEN_DEFAULT writes the two gradients and nothing else of the inputs. For legal parameters GEN_DEFAULT ends with
cause NONE; both FORM bits are 0; PLAIN[i] of W_ISE_IN below nw is the rounded ramp, falling for the odd elements of a
dual-plane block, and PLAIN[i] of E_ISE_IN below ncev is the rounded ramp of the colour range; the other PLAIN
entries, every BLOCK entry, every other register and TX keep their values. -/
def Obligations.GenDefaultWritesTheGradients : Prop :=
  ∀ (s : State) (ise : IseParams), cfgFmt s.cfg < 14 → legalWeightIse s.cfg s.nbParams = some ise →
    let q := normalParams s.nbParams
    let wmax := iseRangeMax ise
    let cmax := iseRangeMax (q.cise ise)
    let ramp := fun top cnt i => (i * top + (cnt - 1) / 2) / (cnt - 1)
    ∃ t, exec .genDefault s = .next t
      ∧ t = { endCommand .none false s with wIseIn := t.wIseIn, eIseIn := t.eIseIn }
      ∧ t.wIseIn.form = .plain ∧ t.eIseIn.form = .plain
      ∧ t.wIseIn.block = s.wIseIn.block ∧ t.eIseIn.block = s.eIseIn.block
      ∧ (∀ i < 64, (plainValues t.wIseIn).getD i 0
          = if i < q.nw then
              (if nbDual s.nbParams = true ∧ i % 2 = 1 then wmax - ramp wmax q.nw i else ramp wmax q.nw i)
            else (plainValues s.wIseIn).getD i 0)
      ∧ (∀ i < 64, (plainValues t.eIseIn).getD i 0
          = if i < q.ncev then ramp cmax q.ncev i else (plainValues s.eIseIn).getD i 0)

/-- After GEN_DEFAULT an ENC_NORMAL is not refused. When GEN_DEFAULT succeeds, the ISE inputs it leaves are in range,
so an ENC_NORMAL that follows with unchanged NB_PARAMS and CFG builds a block with cause NONE. -/
def Obligations.GenDefaultMakesLegalInputs : Prop :=
  ∀ (s : State) (ise : IseParams), cfgFmt s.cfg < 14 → legalWeightIse s.cfg s.nbParams = some ise →
    ∃ t u, exec .genDefault s = .next t
      ∧ inputsInRange (normalParams s.nbParams) ise t.wIseIn t.eIseIn = true
      ∧ exec .encNormal t = .next u ∧ statusResult u.status = false ∧ statusCause u.status = 0
      ∧ u.blkOut = normalBlock s.nbParams ise t.wIseIn t.eIseIn

/-- setBits writes its range and no other bit. For a range inside the block, every bit of the range becomes the bit of
the value and every other bit is unchanged; setBit is setBits of one bit. -/
def Obligations.SetBitsChangesExactlyItsRange : Prop :=
  ∀ (buf : Block) (low high x i : Nat), low ≤ high → high < 128 →
    (setBits buf low high x).getLsbD i
      = (if low ≤ i ∧ i ≤ high then x.testBit (i - low) else buf.getLsbD i)
    ∧ setBit buf low x = setBits buf low low x

/-- A read cursor returns the next bits of its stream, zeros beyond it. Bit j of next(cur, n) is the block bit at
start + ndx + j (forward) or start - ndx - j (reverse) when j is below n and the stream has that bit, and 0 otherwise;
ndx grows by n in every case. -/
def Obligations.CursorReadsItsStream : Prop :=
  ∀ (blk : Nat) (cur : Cursor) (n j : Nat), (cur.forward = false → cur.length ≤ cur.start + 1) →
    (cur.next blk n).2 = { cur with ndx := cur.ndx + n }
    ∧ (cur.next blk n).1.testBit j
      = (decide (j < n ∧ cur.ndx + j < cur.length)
          && blk.testBit (if cur.forward then cur.start + cur.ndx + j else cur.start - cur.ndx - j))

/-- What a write cursor puts is read back, cut to the bits that fit, and no other bit changes. For a cursor whose
range lies inside the block: reading back gives the low bits that fitted, and every block bit outside the positions
written is unchanged. -/
def Obligations.CursorWritesReadBack : Prop :=
  ∀ (buf : Block) (cur : Cursor) (n x : Nat),
    (cur.forward = true → cur.start + cur.length ≤ 128) →
    (cur.forward = false → cur.length ≤ cur.start + 1 ∧ cur.start ≤ 127) →
    cur.value (cur.put buf n x).toNat n = x % 2 ^ cur.avail n
    ∧ ∀ i, (∀ j < cur.avail n, i ≠ if cur.forward then cur.start + cur.ndx + j else cur.start - cur.ndx - j) →
        (cur.put buf n x).getLsbD i = buf.getLsbD i

/-- The trit and quint tables decode to legal digits and the smallest field is chosen. Every T gives five digits 0..2
and every Q three digits 0..4; the field the encoder picks for the digits of T (or Q) decodes to the same digits and
is not larger. -/
def Obligations.TritAndQuintTables : Prop :=
  (∀ t < 256, (tritsFromT t).length = 5 ∧ (∀ d ∈ tritsFromT t, d ≤ 2)
      ∧ tritsFromT (tFromTrits (tritsFromT t)) = tritsFromT t ∧ tFromTrits (tritsFromT t) ≤ t)
    ∧ (∀ q < 128, (quintsFromQ q).length = 3 ∧ (∀ d ∈ quintsFromQ q, d ≤ 4)
      ∧ quintsFromQ (qFromQuints (quintsFromQ q)) = quintsFromQ q ∧ qFromQuints (quintsFromQ q) ≤ q)

/-- Integer sequences written in plain form read back unchanged. For every parameter pair with at most 8 raw bits,
every plain-form input in range for n elements (n at most 64), and every cursor at its start, inside the block and at
least as long as the sequence: decode_ise of what encode_ise wrote gives the n values back, whatever the buffer held.
-/
def Obligations.IsePlainRoundTrip : Prop :=
  ∀ (buf : Block) (p : IseParams) (inp : IseInput) (n : Nat) (cur : Cursor),
    p.numBits ≤ 8 → n ≤ 64 → inp.form = .plain → iseInputInRange p inp n = true → cur.ndx = 0 →
    iseRequiredBits p n ≤ cur.length →
    (cur.forward = true → cur.start + cur.length ≤ 128) →
    (cur.forward = false → cur.length ≤ cur.start + 1 ∧ cur.start ≤ 127) →
    (decodeIse (encodeIse buf cur p inp n).toNat cur p n).map (·.v) = (plainValues inp).take n

/-- unquant_weight of every element of the twelve weight parameter sets. The table of R139, row by row. -/
def Obligations.WeightUnquantisationTable : Prop :=
  let element := fun (p : IseParams) (v : Nat) =>
    if p.mode = .plainBit then (⟨v, 0, v⟩ : IseElem) else ⟨v % 2 ^ p.numBits, v / 2 ^ p.numBits, v⟩
  let row := fun (p : IseParams) (vs : List Nat) =>
    (List.range vs.length).map (fun v => unquantWeight p (element p v)) = vs
  row ⟨.trit, 0⟩ [0, 32, 64]
    ∧ row ⟨.trit, 1⟩ [0, 64, 12, 52, 25, 39]
    ∧ row ⟨.trit, 2⟩ [0, 64, 17, 47, 5, 59, 23, 41, 11, 53, 28, 36]
    ∧ row ⟨.trit, 3⟩ [0, 64, 8, 56, 16, 48, 24, 40, 2, 62, 11, 53, 19, 45, 27, 37, 5, 59, 13, 51, 22, 42, 30, 34]
    ∧ row ⟨.quint, 0⟩ [0, 16, 32, 48, 64]
    ∧ row ⟨.quint, 1⟩ [0, 64, 7, 57, 14, 50, 21, 43, 28, 36]
    ∧ row ⟨.quint, 2⟩ [0, 64, 16, 48, 3, 61, 19, 45, 6, 58, 23, 41, 9, 55, 26, 38, 13, 51, 29, 35]
    ∧ row ⟨.plainBit, 1⟩ [0, 64]
    ∧ row ⟨.plainBit, 2⟩ [0, 21, 43, 64]
    ∧ row ⟨.plainBit, 3⟩ [0, 9, 18, 27, 37, 46, 55, 64]
    ∧ row ⟨.plainBit, 4⟩ [0, 4, 8, 12, 17, 21, 25, 29, 35, 39, 43, 47, 52, 56, 60, 64]
    ∧ row ⟨.plainBit, 5⟩ [0, 2, 4, 6, 8, 10, 12, 14, 16, 18, 20, 22, 24, 26, 28, 30, 34, 36, 38, 40, 42, 44, 46, 48, 50,
        52, 54, 56, 58, 60, 62, 64]

/-- The colour parameters chosen fit and no larger range fits. Whenever the available bits pass the check of R311, the
chosen pair is in the list of R135, its sequence fits in the available bits, no pair of the list with a larger range
fits, and its range is at least 0..5. -/
def Obligations.ColourParametersFit : Prop :=
  ∀ avail n : Nat, ceilDiv (13 * n) 5 ≤ avail →
    colourIseParams avail n ∈ colourIseList ∧ iseRequiredBits (colourIseParams avail n) n ≤ avail
    ∧ 5 ≤ iseRangeMax (colourIseParams avail n)
    ∧ ∀ p ∈ colourIseList, iseRequiredBits p n ≤ avail → iseRangeMax p ≤ iseRangeMax (colourIseParams avail n)

/-- LDR endpoint channels are bytes and HDR ones have twelve bits. For every CEM and values 0..255: the pair carries
the HDR flag of R191; an LDR pair has channels 0..255; an HDR pair has channels 0..4095, with alpha 0..255 for CEM 14
and 0x780 for CEM 2, 3, 7 and 11. -/
def Obligations.EndpointChannelsInRange : Prop :=
  ∀ (cem : Nat) (v : List Nat), cem < 16 → (∀ x ∈ v, x ≤ 255) →
    let p := endpointFormula cem v
    p.isHdr = cemIsHdr cem
    ∧ (∀ e ∈ [p.e0, p.e1],
      (cemIsHdr cem = false → e.r ≤ 255 ∧ e.g ≤ 255 ∧ e.b ≤ 255 ∧ e.a ≤ 255)
      ∧ (cemIsHdr cem = true → e.r ≤ 4095 ∧ e.g ≤ 4095 ∧ e.b ≤ 4095 ∧ e.a ≤ 4095)
      ∧ (cem = 14 → e.a ≤ 255) ∧ (cem ∈ [2, 3, 7, 11] → e.a = 0x780))

/-- CEM 8 and CEM 12 compare the sums and swap with blue contraction. With v1 + v3 + v5 at least v0 + v2 + v4 the
endpoints are the values in order; otherwise they are swapped and blue-contracted, alpha swapped and not contracted;
CEM 8 has alpha 255. -/
def Obligations.LdrDirectTieRule : Prop :=
  ∀ v0 v1 v2 v3 v4 v5 v6 v7 : Nat,
    let pair := fun a0 a1 : Nat =>
      if v0 + v2 + v4 ≤ v1 + v3 + v5 then EndpointPair.mk ⟨v0, v2, v4, a0⟩ ⟨v1, v3, v5, a1⟩ false
      else EndpointPair.mk ⟨(v1 + v5) / 2, (v3 + v5) / 2, v5, a1⟩ ⟨(v0 + v4) / 2, (v2 + v4) / 2, v4, a0⟩ false
    endpointFormula 8 [v0, v1, v2, v3, v4, v5] = pair 0xFF 0xFF
    ∧ endpointFormula 12 [v0, v1, v2, v3, v4, v5, v6, v7] = pair v6 v7

/-- Texel weights lie in 0..64, and a constant grid gives the constant. If every unquantised weight is at most 64, so
is every texel weight, of both planes; if all weights of the grid equal c, so does every texel weight of a grid that
fits the footprint. -/
def Obligations.TexelWeightsInRange : Prop :=
  (∀ (uw : List Nat) (bw bh gw gh tx ty : Nat) (dual : Bool), (∀ x ∈ uw, x ≤ 64) →
      (texelWeight uw bw bh gw gh dual tx ty).plane0 ≤ 64
      ∧ ∀ y, (texelWeight uw bw bh gw gh dual tx ty).plane1 = some y → y ≤ 64)
    ∧ (∀ (fmt c gw gh tx ty : Nat) (dual : Bool), fmt < 14 → 2 ≤ gw → gw ≤ (footprint fmt).1 → 2 ≤ gh →
      gh ≤ (footprint fmt).2 → tx < (footprint fmt).1 → ty < (footprint fmt).2 →
      texelWeight (List.replicate (gw * gh * planesOf dual) c) (footprint fmt).1 (footprint fmt).2 gw gh dual tx ty
        = ⟨c, if dual then some c else none⟩)

/-- A weight grid equal to the footprint needs no interpolation. For every footprint, a grid of the same size gives
each texel its own weight, on both planes. -/
def Obligations.FullGridIsIdentity : Prop :=
  ∀ (fmt : Nat) (uw : List Nat) (tx ty : Nat) (dual : Bool), fmt < 14 →
    tx < (footprint fmt).1 → ty < (footprint fmt).2 →
    let k := (ty * (footprint fmt).1 + tx) * planesOf dual
    texelWeight uw (footprint fmt).1 (footprint fmt).2 (footprint fmt).1 (footprint fmt).2 dual tx ty
      = ⟨uw.getD k 0, if dual then some (uw.getD (k + 1) 0) else none⟩

/-- The partition of a texel is below the number of partitions. For every seed, coordinate and block size, with two to
four partitions. -/
def Obligations.PartitionBelowCount : Prop :=
  ∀ (seed x y z n : Nat) (small : Bool), 2 ≤ n → n ≤ 4 → partitionOf seed x y z n small < n

/-- The two float conversions give the exact value. A finite binary16 pattern becomes a binary32 pattern of the same
sign and value; a UNORM16 value c other than 65535 becomes c / 65536, and 65535 becomes 1.0. -/
def Obligations.FloatConversionsAreExact : Prop :=
  (∀ h < 65536, getBits h 10 14 ≠ 31 →
      f16ToF32 h < 2 ^ 32 ∧ getBit (f16ToF32 h) 31 = getBit h 15
      ∧ f32Magnitude (f16ToF32 h) = f16Magnitude h * 2 ^ 23)
    ∧ (∀ c < 65535, f32Magnitude (unorm16ToF32 c) = c * 2 ^ 31 ∧ unorm16ToF32 c < 2 ^ 31)
    ∧ unorm16ToF32 65535 = 0x3F800000

/-- Interpolated texels are finite and an endpoint passes at its own weight. For endpoint channels and weights in
their ranges: no channel on the linear path, LDR or HDR, is an infinity or a NaN; on the sRGB path a channel is a byte
and weights 0 and 64 give the endpoints unchanged. -/
def Obligations.NoInfinityInTexels : Prop :=
  ∀ a b w : Nat, w ≤ 64 →
    (a ≤ 4095 → b ≤ 4095 → getBits (blendHdr a b w) 23 30 ≠ 255 ∧ blendHdr a b w < 2 ^ 31)
    ∧ (a ≤ 255 → b ≤ 255 → getBits (blendLdr false a b w) 23 30 ≠ 255 ∧ blendLdr true a b w ≤ 255
        ∧ blendLdr true a b 0 = a ∧ blendLdr true a b 64 = b)

/-- Every instruction answers a next state in every state. No instruction faults or is refused as not modelled: errors
and refusals of the codec are next states with a cause. -/
def Obligations.EveryInstructionGoesOn : Prop :=
  ∀ (i : Instr) (s : State), ∃ t, exec i s = .next t

/-- No instruction writes a register that the access summary does not give it. CFG, BLK_IN, VE_PARAMS, NB_PARAMS and
the host's own data never change; BLK_OUT only by ENC_VOID and ENC_NORMAL; the ISE inputs only by GEN_DEFAULT; a TX
byte only by a block-mode or CEM instruction, below the size of the footprint, and not in ISVALID. -/
def Obligations.WhoWritesWhat : Prop :=
  ∀ (i : Instr) (s t : State), exec i s = .next t →
    (t.cfg = s.cfg ∧ t.blkIn = s.blkIn ∧ t.veParams = s.veParams ∧ t.nbParams = s.nbParams ∧ t.host = s.host
      ∧ t.readData = s.readData ∧ t.freeCount = s.freeCount)
    ∧ (i ≠ .encVoid → i ≠ .encNormal → t.blkOut = s.blkOut)
    ∧ (i ≠ .genDefault → t.wIseIn = s.wIseIn ∧ t.eIseIn = s.eIseIn)
    ∧ (i.space = .command ∨ s.cmd = 2 → t.tx = s.tx)
    ∧ keepsTxBeyond s t

/-- No instruction reads TX. Two states that differ only in TX end an instruction with the same registers, and each TX
byte either is the same after both runs or was left as it was by both, whatever the two buffers held. -/
def Obligations.TexelsDoNotDependOnTx : Prop :=
  ∀ (i : Instr) (s : State) (m : Memory) (t u : State), exec i s = .next t → exec i { s with tx := m } = .next u →
    u = { t with tx := u.tx }
    ∧ ∀ a, Memory.read t.tx a = Memory.read u.tx a
      ∨ (Memory.read t.tx a = Memory.read s.tx a ∧ Memory.read u.tx a = Memory.read m a)

/-- ISVALID ends with the STATUS of DECODE and writes no TX byte. Started in the same state, both commands end with
the same STATUS, under every configuration, and differ in no register; ISVALID leaves TX as it was. That both are over
after three steps is the model's count, not the spec's (log 2, DEDUCED). -/
def Obligations.IsvalidAgreesWithDecode : Prop :=
  ∀ s0 : State,
    ∃ t u, Sys2Proof.core.run 3 (startCommand 1 { s0 with host := [] }) = .next t
      ∧ Sys2Proof.core.run 3 (startCommand 2 { s0 with host := [] }) = .next u
      ∧ statusBusy t.status = false ∧ t.status = u.status ∧ u.tx = s0.tx ∧ u = { t with tx := u.tx }

/-- Every step keeps the invariant of the machine. The invariant: TX in canonical form; BUSY and DONE not both set;
CAUSE at most 13 and RESULT 1 exactly when it is not 0; a step of a command pending exactly while BUSY is 1; no value
of a command between commands; a decode under way only with a legal configuration and the code of DECODE or ISVALID;
at the CEM fields a block mode that passed its checks. -/
def Obligations.StepKeepsTheInvariant : Prop :=
  ∀ s t : State, s.Inv → step s = .next t → t.Inv

/-- The machine after reset has the invariant. The reset state meets the invariant that every step keeps. -/
def Obligations.ResetHasTheInvariant : Prop :=
  State.reset.Inv

/-- What reset leaves, and the reset event. After reset every register is 0, both FORM bits are plain, no TX byte has
a value and no command runs; the reset event brings any state there, a running command included. Of R441 the event
takes the registers and the abandoned command; that it leaves no TX byte with a value, where R441 does not touch TX
and leaves its contents unspecified, and that it keeps the host's actions and the model's own fields is the model's
(log 19, DEDUCED; with log 4 for TX without values, log 1 for the host's list, logs 5 and 6 for freeCount and
readData). -/
def Obligations.ResetValues : Prop :=
  (State.reset.cmd = 0 ∧ State.reset.status = 0 ∧ State.reset.cfg = 0 ∧ State.reset.blkIn = 0 ∧ State.reset.blkOut = 0
      ∧ State.reset.veParams = 0 ∧ State.reset.nbParams = 0 ∧ State.reset.phase = .idle
      ∧ (∀ inp ∈ [State.reset.wIseIn, State.reset.eIseIn], inp.form = .plain ∧ (∀ x ∈ inp.plain.toList, x = 0)
        ∧ ∀ b ∈ inp.block.toList, b.tq = 0 ∧ ∀ x ∈ b.bits.toList, x = 0)
      ∧ ∀ a, Memory.read State.reset.tx a = none)
    ∧ ∀ (s : State) (rest : List HostAct), s.host = .reset :: rest →
      step s = .next { State.reset with host := rest, readData := s.readData, freeCount := s.freeCount }

/-- Only reset clears FAULT. If FAULT is 1 before a step that is not the reset event, it is 1 after it. -/
def Obligations.FaultIsSticky : Prop :=
  ∀ s t : State, statusFault s.status = true → step s = .next t →
    (∀ rest, s.host ≠ .reset :: rest) → statusFault t.status = true

/-- A running command is over after at most three steps. From every state with the invariant and no host action left,
after three steps no command runs and DONE is 1 if one ran before. The number three is the model's (log 2). -/
def Obligations.CommandsEnd : Prop :=
  ∀ s : State, s.Inv → s.host = [] →
    ∃ t, Sys2Proof.core.run 3 s = .next t ∧ statusBusy t.status = false
      ∧ (statusBusy s.status = true → statusDone t.status = true)

/-- While no command runs the codec changes nothing by itself. With no command running, a step with no host action
leaves the state, a tick takes itself off the list and a wait ends; nothing else changes. Of R465 is that nothing of
the hardware changes while idle; the tick and the wait are actions of the model's host list (log 1, DESIGN CHOICE),
and a step that answers the same state is the model's (log 20, DEDUCED). -/
def Obligations.IdleCodecDoesNothing : Prop :=
  ∀ s : State, s.phase = .idle →
    (s.host = [] → step s = .next s)
    ∧ (∀ rest, s.host = .tick :: rest → step s = .next { s with host := rest })
    ∧ (∀ rest, s.host = .waitDone :: rest → statusBusy s.status = false → step s = .next { s with host := rest })

/-- A host write while BUSY = 1 changes nothing; STATUS and BLK_OUT are read-only at all times. For every port the
hardware has and every value: while BUSY is 1 the write is taken off the list and changes nothing; a write to STATUS
or to a byte of BLK_OUT never changes anything. -/
def Obligations.BusyWritesAreIgnored : Prop :=
  ∀ (p : Port) (v : Nat) (s : State) (rest : List HostAct), s.host = .write p v :: rest → portFault p = none →
    (statusBusy s.status = true → step s = .next { s with host := rest })
    ∧ ((p = .status ∨ ∃ k, p = .blkOutByte k) → step s = .next { s with host := rest })

/-- A write to CMD while BUSY = 0 is the start event. It sets BUSY, clears DONE, keeps RESULT, CAUSE and FAULT, makes
the written code the next instruction, and changes nothing else. For a value above 7 the code is its low three bits,
the model's choice (log 18, DESIGN CHOICE); that the stored FAULT is kept at the start is DEDUCED (log 17). -/
def Obligations.CommandWriteStarts : Prop :=
  ∀ (v : Nat) (s : State) (rest : List HostAct), s.host = .write .cmd v :: rest → statusBusy s.status = false →
    ∃ t, step s = .next t
      ∧ t = { s with host := rest, status := t.status, cmd := BitVec.ofNat 3 v, phase := .command }
      ∧ statusBusy t.status = true ∧ statusDone t.status = false ∧ statusResult t.status = statusResult s.status
      ∧ statusFault t.status = statusFault s.status ∧ statusCause t.status = statusCause s.status
      ∧ fetch t = some (decodeCommand (BitVec.ofNat 3 v))

/-- Reads while BUSY = 1 return a value of the right width and have no effect. STATUS reads BUSY = 1 and DONE = 0;
CFG, BLK_IN, VE_PARAMS and NB_PARAMS read the value they hold; every other port reads some value of its width (a free
value of the model, log 5); CMD reads 0. No register and no TX byte changes. -/
def Obligations.BusyReads : Prop :=
  ∀ (p : Port) (s : State) (rest : List HostAct), s.host = .read p :: rest → portFault p = none →
    statusBusy s.status = true →
    ∃ v f, step s = .next { s with host := rest, readData := v, freeCount := f } ∧ v < 2 ^ portWidth p
      ∧ (p = .status → v % 2 = 1 ∧ v / 2 % 2 = 0)
      ∧ (p = .cmd → v = 0)
      ∧ (portSteady p = true → portValue p s = some v)

/-- A settable port reads back what was written, every other port what it held. While BUSY = 0, writing a port other
than CMD and the read-only ones and reading it back gives the value cut to the width; every other port the hardware
has keeps its value; the phase and the model's own fields (host, readData and freeCount) do not change. The cut of a
value wider than its port is the model's choice (log 18, DESIGN CHOICE), and so is the size of the pieces by which the
host accesses the registers (log 9, DESIGN CHOICE); that a value that fits reads back is R465. -/
def Obligations.HostAccessWhileIdle : Prop :=
  ∀ (p : Port) (v : Nat) (s : State), portSettable p = true → portFault p = none → statusBusy s.status = false →
    ∃ t, hostWrite p v s = .next t
      ∧ portValue p t = some (v % 2 ^ portWidth p)
      ∧ (∀ p', p' ≠ p → portFault p' = none → portValue p' t = portValue p' s)
      ∧ t.phase = s.phase ∧ t.host = s.host ∧ t.readData = s.readData ∧ t.freeCount = s.freeCount

/-- An idle read returns the value held, and an undefined TX byte is a fault of the host. While BUSY = 0 a read of a
port the hardware has returns its value and changes nothing else; a TX byte without a value has none to return; a TX
address above 2303 is outside the hardware. That the read of a TX byte without a value is a fault is the model's
reading of R42 where U29 allows any value (log 4, DESIGN CHOICE), and that an access above 2303 is a fault is its
choice under U28 (log 8, DESIGN CHOICE). -/
def Obligations.HostReadWhileIdle : Prop :=
  ∀ (p : Port) (s : State), statusBusy s.status = false →
    (∀ v, portFault p = none → portValue p s = some v → hostRead p s = .next { s with readData := v })
    ∧ (∀ a, a < 2304 → Memory.read s.tx a = none → hostRead (.tx a) s = .fault (.txUndefined a))
    ∧ (∀ a, 2304 ≤ a → hostRead (.tx a) s = .fault (.txOutside a) ∧ ∀ v, hostWrite (.tx a) v s = .fault (.txOutside a))
end

