-- ==== Sys2Proof/Laws/Blocks.lean ====
section
/-! SUPPORT. A block as sixteen bytes and back, and what is fetched from a running command. -/

namespace Sys2Proof

theorem bytesOfBlock_length (blk : Block) : (bytesOfBlock blk).length = 16 := by simp [bytesOfBlock]

/-- The value of little-endian bytes taken from a number. -/
theorem foldr_bytes (w k n : Nat) :
    ((List.range' k n).map (fun i => w / 2 ^ (8 * i) % 256)).foldr (fun b acc => b + 256 * acc) 0
      = w / 2 ^ (8 * k) % 2 ^ (8 * n) := by
  induction n generalizing k with
  | zero => simp [Nat.mod_one]
  | succ n ih =>
    rw [List.range'_succ, List.map_cons, List.foldr_cons, ih (k + 1)]
    have h1 : w / 2 ^ (8 * (k + 1)) = w / 2 ^ (8 * k) / 256 := by
      rw [Nat.div_div_eq_div_mul, show 8 * (k + 1) = 8 * k + 8 by omega, Nat.pow_add]
    have h2 : 2 ^ (8 * (n + 1)) = 256 * 2 ^ (8 * n) := by
      rw [show 8 * (n + 1) = 8 * n + 8 by omega, Nat.pow_add]; omega
    rw [h1, h2, Nat.mod_mul]

/-- The bytes of a block give the block back (`20_memory.md` R52, R53). -/
theorem blockOfBytes_bytesOfBlock (blk : Block) : blockOfBytes (bytesOfBlock blk) = blk := by
  have h : (bytesOfBlock blk).foldr (fun b acc => b.toNat + 256 * acc) 0 = blk.toNat := by
    have h1 := foldr_bytes blk.toNat 0 16
    have h2 : blk.toNat < 2 ^ (8 * 16) := blk.isLt
    simp only [Nat.mul_zero, Nat.pow_zero, Nat.div_one, Nat.mod_eq_of_lt h2] at h1
    rw [bytesOfBlock, List.range_eq_range', List.foldr_map]
    rw [List.foldr_map] at h1
    simpa [blockByte, BitVec.toNat_ofNat] using h1
  rw [blockOfBytes, h]
  simp

@[simp] theorem decode_blockMode_block (blk : Block) :
    decode .blockMode (bytesOfBlock blk) = .ok (decodeBlockMode blk) := by
  simp [decode, bytesOfBlock_length, blockOfBytes_bytesOfBlock]

@[simp] theorem decode_endpoint_block (blk : Block) :
    decode .endpoint (bytesOfBlock blk) = .ok (decodeEndpoint blk) := by
  simp [decode, bytesOfBlock_length, blockOfBytes_bytesOfBlock]

theorem decode_command_byte : ∀ c : BitVec 3, decode .command [c.setWidth 8] = .ok (decodeCommand c) := by decide

namespace Machine

/-- What is fetched in each phase. -/
theorem fetch_eq (s : State) : fetch s =
    match s.phase with
    | .idle => none
    | .command => some (decodeCommand s.cmd)
    | .blockMode => some (decodeBlockMode s.blk)
    | .endpoint => some (decodeEndpoint s.blk) := by
  unfold fetch fetchBytes
  cases s.phase <;> simp [decode_command_byte]

end Machine
end Sys2Proof
end

