-- ==== Sys2Proof/Laws/Flags.lean ====
section
/-! SUPPORT. The fields of `STATUS` after the start and the end of a command. -/

namespace Sys2Proof.Machine

theorem packStatus_fields : ∀ (b d r f : Bool) (c : Fin 16),
    statusBusy (packStatus b d r f c) = b ∧ statusDone (packStatus b d r f c) = d
      ∧ statusResult (packStatus b d r f c) = r ∧ statusFault (packStatus b d r f c) = f
      ∧ statusCause (packStatus b d r f c) = c := by decide

@[simp] theorem Cause.code_lt (c : Cause) : c.code < 16 := by cases c <;> decide

theorem Cause.code_le (c : Cause) : c.code ≤ 13 := by cases c <;> decide

theorem Cause.code_eq_zero (c : Cause) : c.code = 0 ↔ c = .none := by cases c <;> decide

theorem endStatus_fields (c : Cause) (f : Bool) (st : BitVec 8) :
    statusBusy (endStatus c f st) = false ∧ statusDone (endStatus c f st) = true
      ∧ statusResult (endStatus c f st) = decide (c ≠ .none) ∧ statusFault (endStatus c f st) = (statusFault st || f)
      ∧ statusCause (endStatus c f st) = c.code :=
  packStatus_fields false true (decide (c ≠ .none)) (statusFault st || f) ⟨c.code, c.code_lt⟩

@[simp] theorem endStatus_busy (c : Cause) (f : Bool) (st : BitVec 8) : statusBusy (endStatus c f st) = false :=
  (endStatus_fields c f st).1

@[simp] theorem endStatus_done (c : Cause) (f : Bool) (st : BitVec 8) : statusDone (endStatus c f st) = true :=
  (endStatus_fields c f st).2.1

@[simp] theorem endStatus_result (c : Cause) (f : Bool) (st : BitVec 8) :
    statusResult (endStatus c f st) = decide (c ≠ .none) := (endStatus_fields c f st).2.2.1

@[simp] theorem endStatus_fault (c : Cause) (f : Bool) (st : BitVec 8) :
    statusFault (endStatus c f st) = (statusFault st || f) := (endStatus_fields c f st).2.2.2.1

@[simp] theorem endStatus_cause (c : Cause) (f : Bool) (st : BitVec 8) :
    statusCause (endStatus c f st) = c.code := (endStatus_fields c f st).2.2.2.2

theorem statusCause_lt (st : BitVec 8) : statusCause st < 16 := by
  have := st.isLt
  unfold statusCause
  omega

theorem startStatus_fields (st : BitVec 8) :
    statusBusy (startStatus st) = true ∧ statusDone (startStatus st) = false
      ∧ statusResult (startStatus st) = statusResult st ∧ statusFault (startStatus st) = statusFault st
      ∧ statusCause (startStatus st) = statusCause st :=
  packStatus_fields true false (statusResult st) (statusFault st) ⟨statusCause st, statusCause_lt st⟩

@[simp] theorem startStatus_busy (st : BitVec 8) : statusBusy (startStatus st) = true := (startStatus_fields st).1

@[simp] theorem startStatus_done (st : BitVec 8) : statusDone (startStatus st) = false := (startStatus_fields st).2.1

@[simp] theorem startStatus_result (st : BitVec 8) : statusResult (startStatus st) = statusResult st :=
  (startStatus_fields st).2.2.1

@[simp] theorem startStatus_fault (st : BitVec 8) : statusFault (startStatus st) = statusFault st :=
  (startStatus_fields st).2.2.2.1

@[simp] theorem startStatus_cause (st : BitVec 8) : statusCause (startStatus st) = statusCause st :=
  (startStatus_fields st).2.2.2.2

end Sys2Proof.Machine
end

