-- ==== Sys2Proof/Laws/Memory.lean ====
section
/-! SUPPORT. The texel buffer: a read after a write, and the canonical form, which every write keeps. -/

namespace Sys2Proof.Machine

/-! ### Reading -/

theorem Memory.read_cons (b : Nat) (v : Byte) (m : Memory) (a : Nat) :
    Memory.read ((b, v) :: m) a = if a = b then some v else m.read a := by
  unfold Memory.read
  by_cases h : a = b
  · subst h; simp [List.lookup]
  · simp [List.lookup, beq_eq_false_iff_ne.mpr h, h]

theorem Memory.read_append (m n : Memory) (a : Nat) : Memory.read (m ++ n) a = (m.read a).or (n.read a) := by
  induction m with
  | nil => simp [Memory.read]
  | cons c m ih =>
    obtain ⟨b, v⟩ := c
    rw [List.cons_append, Memory.read_cons, Memory.read_cons, ih]
    split <;> simp

theorem Memory.read_below (m : Memory) (addr a : Nat) :
    (m.below addr).read a = if a < addr then m.read a else none := by
  unfold Memory.below
  induction m with
  | nil => simp [Memory.read]
  | cons c m ih =>
    obtain ⟨b, v⟩ := c
    rw [List.filter_cons, Memory.read_cons]
    by_cases hb : b < addr
    · simp only [hb, decide_true, if_true, Memory.read_cons, ih]
      by_cases h : a = b <;> simp [h, hb]
    · simp only [hb, decide_false, Bool.false_eq_true, if_false, ih]
      by_cases h : a = b <;> simp [h, hb]

theorem Memory.read_above (m : Memory) (addr a : Nat) :
    (m.above addr).read a = if addr ≤ a then m.read a else none := by
  unfold Memory.above
  induction m with
  | nil => simp [Memory.read]
  | cons c m ih =>
    obtain ⟨b, v⟩ := c
    rw [List.filter_cons, Memory.read_cons]
    by_cases hb : addr ≤ b
    · simp only [hb, decide_true, if_true, Memory.read_cons, ih]
      by_cases h : a = b <;> simp [h, hb]
    · simp only [hb, decide_false, Bool.false_eq_true, if_false, ih]
      by_cases h : a = b <;> simp [h, hb]

theorem read_cellsAt (bs : List Byte) (addr a : Nat) :
    Memory.read (cellsAt addr bs) a = if addr ≤ a then bs[a - addr]? else none := by
  induction bs generalizing addr with
  | nil => simp [cellsAt, Memory.read]
  | cons b bs ih =>
    rw [cellsAt, Memory.read_cons, ih]
    by_cases h : a = addr
    · simp [h]
    · by_cases h1 : addr + 1 ≤ a
      · have : a - addr = (a - (addr + 1)) + 1 := by omega
        simp [h, h1, show addr ≤ a by omega, this]
      · simp [h, h1, show ¬ addr ≤ a by omega]

/-- What a read gives after a write of consecutive bytes: the byte written there, or what was there before. -/
theorem Memory.read_writeBytes (m : Memory) (addr : Nat) (bs : List Byte) (a : Nat) :
    (m.writeBytes addr bs).read a
      = if addr ≤ a ∧ a < addr + bs.length then bs[a - addr]? else m.read a := by
  unfold Memory.writeBytes
  rw [Memory.read_append, Memory.read_append, Memory.read_below, read_cellsAt, Memory.read_above]
  by_cases h1 : a < addr
  · have h2 : ¬ addr ≤ a := by omega
    have h3 : ¬ addr + bs.length ≤ a := by omega
    simp [h1, h2, h3]
  · have h2 : addr ≤ a := by omega
    by_cases h3 : a < addr + bs.length
    · have h4 : ¬ addr + bs.length ≤ a := by omega
      simp [h1, h2, h3, h4]
    · have h4 : bs[a - addr]? = none := by simp; omega
      simp [h1, h2, h3, h4, show addr + bs.length ≤ a by omega]

/-- A byte outside the written range reads as before. -/
theorem Memory.read_writeBytes_outside (m : Memory) (addr : Nat) (bs : List Byte) (a : Nat)
    (h : a < addr ∨ addr + bs.length ≤ a) : (m.writeBytes addr bs).read a = m.read a := by
  rw [Memory.read_writeBytes, if_neg (by omega)]

/-! ### The canonical form -/

theorem Memory.wfFrom_mono {m : Memory} {lo lo' : Nat} (h : Memory.wfFrom lo m = true) (hl : lo' ≤ lo) :
    Memory.wfFrom lo' m = true := by
  cases m with
  | nil => rfl
  | cons c m =>
    obtain ⟨a, b⟩ := c
    simp only [Memory.wfFrom, Bool.and_eq_true, decide_eq_true_eq] at h ⊢
    exact ⟨⟨by omega, h.1.2⟩, h.2⟩

theorem Memory.wfFrom_filter {m : Memory} {lo : Nat} (q : Host.Cell → Bool) (h : Memory.wfFrom lo m = true) :
    Memory.wfFrom lo (m.filter q) = true := by
  induction m generalizing lo with
  | nil => rfl
  | cons c m ih =>
    obtain ⟨a, b⟩ := c
    simp only [Memory.wfFrom, Bool.and_eq_true, decide_eq_true_eq] at h
    rw [List.filter_cons]
    split
    · simp [Memory.wfFrom, h.1, ih h.2]
    · exact Memory.wfFrom_mono (ih h.2) (by omega)

theorem Memory.wfFrom_above {m : Memory} {lo : Nat} (addr : Nat) (h : Memory.wfFrom lo m = true) :
    Memory.wfFrom addr (m.above addr) = true := by
  unfold Memory.above
  induction m generalizing lo with
  | nil => rfl
  | cons c m ih =>
    obtain ⟨a, b⟩ := c
    simp only [Memory.wfFrom, Bool.and_eq_true, decide_eq_true_eq] at h
    rw [List.filter_cons]
    split
    · rename_i hc
      simp only [Memory.wfFrom, Bool.and_eq_true, decide_eq_true_eq] at hc ⊢
      exact ⟨⟨hc, h.1.2⟩, Memory.wfFrom_filter _ h.2⟩
    · exact ih h.2

theorem wfFrom_cellsAt_append {bs : List Byte} {addr : Nat} {m : Memory} (hb : addr + bs.length ≤ 2304)
    (hm : Memory.wfFrom (addr + bs.length) m = true) : Memory.wfFrom addr (cellsAt addr bs ++ m) = true := by
  induction bs generalizing addr with
  | nil => simpa [cellsAt] using hm
  | cons b bs ih =>
    simp only [List.length_cons] at hb hm
    simp only [cellsAt, List.cons_append, Memory.wfFrom, Bool.and_eq_true, decide_eq_true_eq]
    refine ⟨⟨by omega, by omega⟩, ih (by omega) ?_⟩
    rwa [show addr + 1 + bs.length = addr + (bs.length + 1) by omega]

theorem Memory.wfFrom_below_append {m n : Memory} {lo addr : Nat} (h : Memory.wfFrom lo m = true) (hl : lo ≤ addr)
    (hn : Memory.wfFrom addr n = true) : Memory.wfFrom lo (m.below addr ++ n) = true := by
  unfold Memory.below
  induction m generalizing lo with
  | nil => exact Memory.wfFrom_mono hn hl
  | cons c m ih =>
    obtain ⟨a, b⟩ := c
    simp only [Memory.wfFrom, Bool.and_eq_true, decide_eq_true_eq] at h
    rw [List.filter_cons]
    split
    · rename_i hc
      simp only [decide_eq_true_eq] at hc
      simp only [List.cons_append, Memory.wfFrom, Bool.and_eq_true, decide_eq_true_eq]
      exact ⟨h.1, ih h.2 (by omega)⟩
    · rename_i hc
      simp only [decide_eq_true_eq] at hc
      exact Memory.wfFrom_mono (ih (lo := addr) (Memory.wfFrom_mono h.2 (by omega)) (Nat.le_refl _)) hl

/-- A write inside the buffer keeps the canonical form. -/
theorem Memory.wf_writeBytes {m : Memory} {addr : Nat} {bs : List Byte} (hm : m.wf = true)
    (hb : addr + bs.length ≤ 2304) : (m.writeBytes addr bs).wf = true :=
  Memory.wfFrom_below_append hm (Nat.zero_le _) (wfFrom_cellsAt_append hb (Memory.wfFrom_above _ hm))

theorem reset_tx_wf : State.reset.tx.wf = true := rfl

/-! ### The bytes of texels -/

@[simp] theorem leBytes_length (n v : Nat) : (leBytes n v).length = n := by
  induction n generalizing v with
  | zero => rfl
  | succ n ih => simp [leBytes, ih]

/-- How many bytes one channel takes in `TX`. -/
theorem texelBytes_length (srgb : Bool) (t : Rgba) : (texelBytes srgb t).length = if srgb then 4 else 16 := by
  cases srgb <;> simp [texelBytes]

theorem texelsBytes_length (srgb : Bool) (ts : List Rgba) :
    (texelsBytes srgb ts).length = (if srgb then 4 else 16) * ts.length := by
  induction ts with
  | nil => simp [texelsBytes]
  | cons t ts ih =>
    have : texelsBytes srgb (t :: ts) = texelBytes srgb t ++ texelsBytes srgb ts := rfl
    rw [this, List.length_append, texelBytes_length, ih, List.length_cons]
    cases srgb <;> simp <;> omega

/-- `TX` after the texels of a decode: byte by byte. -/
theorem storeTexels_read (ts : List Rgba) (s : State) (a : Nat) :
    (storeTexels ts s).tx.read a
      = if writesTx s = true ∧ a < (texelsBytes (cfgSrgb s.cfg) ts).length
        then (texelsBytes (cfgSrgb s.cfg) ts)[a]? else s.tx.read a := by
  unfold storeTexels
  by_cases h : writesTx s = true
  · simp [h, Memory.read_writeBytes]
  · simp [h]

end Sys2Proof.Machine
end

