-- ==== Sys2Proof/Laws/State.lean ====
section
/-! SUPPORT. One lemma per field for every update of the state. -/

namespace Sys2Proof.Machine

@[simp] theorem endCommand_cmd (c : Cause) (f : Bool) (s : State) : (endCommand c f s).cmd = 0 := rfl
@[simp] theorem endCommand_status (c : Cause) (f : Bool) (s : State) : (endCommand c f s).status = endStatus c f s.status := rfl
@[simp] theorem endCommand_cfg (c : Cause) (f : Bool) (s : State) : (endCommand c f s).cfg = s.cfg := rfl
@[simp] theorem endCommand_blkIn (c : Cause) (f : Bool) (s : State) : (endCommand c f s).blkIn = s.blkIn := rfl
@[simp] theorem endCommand_blkOut (c : Cause) (f : Bool) (s : State) : (endCommand c f s).blkOut = s.blkOut := rfl
@[simp] theorem endCommand_veParams (c : Cause) (f : Bool) (s : State) : (endCommand c f s).veParams = s.veParams := rfl
@[simp] theorem endCommand_nbParams (c : Cause) (f : Bool) (s : State) : (endCommand c f s).nbParams = s.nbParams := rfl
@[simp] theorem endCommand_wIseIn (c : Cause) (f : Bool) (s : State) : (endCommand c f s).wIseIn = s.wIseIn := rfl
@[simp] theorem endCommand_eIseIn (c : Cause) (f : Bool) (s : State) : (endCommand c f s).eIseIn = s.eIseIn := rfl
@[simp] theorem endCommand_tx (c : Cause) (f : Bool) (s : State) : (endCommand c f s).tx = s.tx := rfl
@[simp] theorem endCommand_phase (c : Cause) (f : Bool) (s : State) : (endCommand c f s).phase = .idle := rfl
@[simp] theorem endCommand_blk (c : Cause) (f : Bool) (s : State) : (endCommand c f s).blk = 0 := rfl
@[simp] theorem endCommand_bm (c : Cause) (f : Bool) (s : State) : (endCommand c f s).bm = BlockModeInfo.empty := rfl
@[simp] theorem endCommand_host (c : Cause) (f : Bool) (s : State) : (endCommand c f s).host = s.host := rfl
@[simp] theorem endCommand_readData (c : Cause) (f : Bool) (s : State) : (endCommand c f s).readData = s.readData := rfl
@[simp] theorem endCommand_freeCount (c : Cause) (f : Bool) (s : State) : (endCommand c f s).freeCount = s.freeCount := rfl

@[simp] theorem startCommand_cmd (c : BitVec 3) (s : State) : (startCommand c s).cmd = c := rfl
@[simp] theorem startCommand_status (c : BitVec 3) (s : State) : (startCommand c s).status = startStatus s.status := rfl
@[simp] theorem startCommand_cfg (c : BitVec 3) (s : State) : (startCommand c s).cfg = s.cfg := rfl
@[simp] theorem startCommand_blkIn (c : BitVec 3) (s : State) : (startCommand c s).blkIn = s.blkIn := rfl
@[simp] theorem startCommand_blkOut (c : BitVec 3) (s : State) : (startCommand c s).blkOut = s.blkOut := rfl
@[simp] theorem startCommand_veParams (c : BitVec 3) (s : State) : (startCommand c s).veParams = s.veParams := rfl
@[simp] theorem startCommand_nbParams (c : BitVec 3) (s : State) : (startCommand c s).nbParams = s.nbParams := rfl
@[simp] theorem startCommand_wIseIn (c : BitVec 3) (s : State) : (startCommand c s).wIseIn = s.wIseIn := rfl
@[simp] theorem startCommand_eIseIn (c : BitVec 3) (s : State) : (startCommand c s).eIseIn = s.eIseIn := rfl
@[simp] theorem startCommand_tx (c : BitVec 3) (s : State) : (startCommand c s).tx = s.tx := rfl
@[simp] theorem startCommand_phase (c : BitVec 3) (s : State) : (startCommand c s).phase = .command := rfl
@[simp] theorem startCommand_blk (c : BitVec 3) (s : State) : (startCommand c s).blk = s.blk := rfl
@[simp] theorem startCommand_bm (c : BitVec 3) (s : State) : (startCommand c s).bm = s.bm := rfl
@[simp] theorem startCommand_host (c : BitVec 3) (s : State) : (startCommand c s).host = s.host := rfl
@[simp] theorem startCommand_readData (c : BitVec 3) (s : State) : (startCommand c s).readData = s.readData := rfl
@[simp] theorem startCommand_freeCount (c : BitVec 3) (s : State) : (startCommand c s).freeCount = s.freeCount := rfl

@[simp] theorem latchBlock_cmd (c : BitVec 3) (s : State) : (latchBlock c s).cmd = c := rfl
@[simp] theorem latchBlock_status (c : BitVec 3) (s : State) : (latchBlock c s).status = s.status := rfl
@[simp] theorem latchBlock_cfg (c : BitVec 3) (s : State) : (latchBlock c s).cfg = s.cfg := rfl
@[simp] theorem latchBlock_blkIn (c : BitVec 3) (s : State) : (latchBlock c s).blkIn = s.blkIn := rfl
@[simp] theorem latchBlock_blkOut (c : BitVec 3) (s : State) : (latchBlock c s).blkOut = s.blkOut := rfl
@[simp] theorem latchBlock_veParams (c : BitVec 3) (s : State) : (latchBlock c s).veParams = s.veParams := rfl
@[simp] theorem latchBlock_nbParams (c : BitVec 3) (s : State) : (latchBlock c s).nbParams = s.nbParams := rfl
@[simp] theorem latchBlock_wIseIn (c : BitVec 3) (s : State) : (latchBlock c s).wIseIn = s.wIseIn := rfl
@[simp] theorem latchBlock_eIseIn (c : BitVec 3) (s : State) : (latchBlock c s).eIseIn = s.eIseIn := rfl
@[simp] theorem latchBlock_tx (c : BitVec 3) (s : State) : (latchBlock c s).tx = s.tx := rfl
@[simp] theorem latchBlock_phase (c : BitVec 3) (s : State) : (latchBlock c s).phase = .blockMode := rfl
@[simp] theorem latchBlock_blk (c : BitVec 3) (s : State) : (latchBlock c s).blk = s.blkIn := rfl
@[simp] theorem latchBlock_bm (c : BitVec 3) (s : State) : (latchBlock c s).bm = s.bm := rfl
@[simp] theorem latchBlock_host (c : BitVec 3) (s : State) : (latchBlock c s).host = s.host := rfl
@[simp] theorem latchBlock_readData (c : BitVec 3) (s : State) : (latchBlock c s).readData = s.readData := rfl
@[simp] theorem latchBlock_freeCount (c : BitVec 3) (s : State) : (latchBlock c s).freeCount = s.freeCount := rfl

@[simp] theorem latchMode_cmd (m : BlockModeInfo) (s : State) : (latchMode m s).cmd = s.cmd := rfl
@[simp] theorem latchMode_status (m : BlockModeInfo) (s : State) : (latchMode m s).status = s.status := rfl
@[simp] theorem latchMode_cfg (m : BlockModeInfo) (s : State) : (latchMode m s).cfg = s.cfg := rfl
@[simp] theorem latchMode_blkIn (m : BlockModeInfo) (s : State) : (latchMode m s).blkIn = s.blkIn := rfl
@[simp] theorem latchMode_blkOut (m : BlockModeInfo) (s : State) : (latchMode m s).blkOut = s.blkOut := rfl
@[simp] theorem latchMode_veParams (m : BlockModeInfo) (s : State) : (latchMode m s).veParams = s.veParams := rfl
@[simp] theorem latchMode_nbParams (m : BlockModeInfo) (s : State) : (latchMode m s).nbParams = s.nbParams := rfl
@[simp] theorem latchMode_wIseIn (m : BlockModeInfo) (s : State) : (latchMode m s).wIseIn = s.wIseIn := rfl
@[simp] theorem latchMode_eIseIn (m : BlockModeInfo) (s : State) : (latchMode m s).eIseIn = s.eIseIn := rfl
@[simp] theorem latchMode_tx (m : BlockModeInfo) (s : State) : (latchMode m s).tx = s.tx := rfl
@[simp] theorem latchMode_phase (m : BlockModeInfo) (s : State) : (latchMode m s).phase = .endpoint := rfl
@[simp] theorem latchMode_blk (m : BlockModeInfo) (s : State) : (latchMode m s).blk = s.blk := rfl
@[simp] theorem latchMode_bm (m : BlockModeInfo) (s : State) : (latchMode m s).bm = m := rfl
@[simp] theorem latchMode_host (m : BlockModeInfo) (s : State) : (latchMode m s).host = s.host := rfl
@[simp] theorem latchMode_readData (m : BlockModeInfo) (s : State) : (latchMode m s).readData = s.readData := rfl
@[simp] theorem latchMode_freeCount (m : BlockModeInfo) (s : State) : (latchMode m s).freeCount = s.freeCount := rfl

@[simp] theorem decodeAt_cmd (p : Phase) (b : Block) (s : State) : (decodeAt p b s).cmd = 1 := rfl
@[simp] theorem decodeAt_status (p : Phase) (b : Block) (s : State) : (decodeAt p b s).status = startStatus s.status := rfl
@[simp] theorem decodeAt_cfg (p : Phase) (b : Block) (s : State) : (decodeAt p b s).cfg = s.cfg := rfl
@[simp] theorem decodeAt_blkIn (p : Phase) (b : Block) (s : State) : (decodeAt p b s).blkIn = s.blkIn := rfl
@[simp] theorem decodeAt_blkOut (p : Phase) (b : Block) (s : State) : (decodeAt p b s).blkOut = s.blkOut := rfl
@[simp] theorem decodeAt_veParams (p : Phase) (b : Block) (s : State) : (decodeAt p b s).veParams = s.veParams := rfl
@[simp] theorem decodeAt_nbParams (p : Phase) (b : Block) (s : State) : (decodeAt p b s).nbParams = s.nbParams := rfl
@[simp] theorem decodeAt_wIseIn (p : Phase) (b : Block) (s : State) : (decodeAt p b s).wIseIn = s.wIseIn := rfl
@[simp] theorem decodeAt_eIseIn (p : Phase) (b : Block) (s : State) : (decodeAt p b s).eIseIn = s.eIseIn := rfl
@[simp] theorem decodeAt_tx (p : Phase) (b : Block) (s : State) : (decodeAt p b s).tx = s.tx := rfl
@[simp] theorem decodeAt_phase (p : Phase) (b : Block) (s : State) : (decodeAt p b s).phase = p := rfl
@[simp] theorem decodeAt_blk (p : Phase) (b : Block) (s : State) : (decodeAt p b s).blk = b := rfl
@[simp] theorem decodeAt_bm (p : Phase) (b : Block) (s : State) : (decodeAt p b s).bm = s.bm := rfl
@[simp] theorem decodeAt_host (p : Phase) (b : Block) (s : State) : (decodeAt p b s).host = s.host := rfl
@[simp] theorem decodeAt_readData (p : Phase) (b : Block) (s : State) : (decodeAt p b s).readData = s.readData := rfl
@[simp] theorem decodeAt_freeCount (p : Phase) (b : Block) (s : State) : (decodeAt p b s).freeCount = s.freeCount := rfl

@[simp] theorem resetEvent_cmd (s : State) : (resetEvent s).cmd = State.reset.cmd := rfl
@[simp] theorem resetEvent_status (s : State) : (resetEvent s).status = State.reset.status := rfl
@[simp] theorem resetEvent_cfg (s : State) : (resetEvent s).cfg = State.reset.cfg := rfl
@[simp] theorem resetEvent_blkIn (s : State) : (resetEvent s).blkIn = State.reset.blkIn := rfl
@[simp] theorem resetEvent_blkOut (s : State) : (resetEvent s).blkOut = State.reset.blkOut := rfl
@[simp] theorem resetEvent_veParams (s : State) : (resetEvent s).veParams = State.reset.veParams := rfl
@[simp] theorem resetEvent_nbParams (s : State) : (resetEvent s).nbParams = State.reset.nbParams := rfl
@[simp] theorem resetEvent_wIseIn (s : State) : (resetEvent s).wIseIn = State.reset.wIseIn := rfl
@[simp] theorem resetEvent_eIseIn (s : State) : (resetEvent s).eIseIn = State.reset.eIseIn := rfl
@[simp] theorem resetEvent_tx (s : State) : (resetEvent s).tx = State.reset.tx := rfl
@[simp] theorem resetEvent_phase (s : State) : (resetEvent s).phase = State.reset.phase := rfl
@[simp] theorem resetEvent_blk (s : State) : (resetEvent s).blk = State.reset.blk := rfl
@[simp] theorem resetEvent_bm (s : State) : (resetEvent s).bm = State.reset.bm := rfl
@[simp] theorem resetEvent_host (s : State) : (resetEvent s).host = s.host := rfl
@[simp] theorem resetEvent_readData (s : State) : (resetEvent s).readData = s.readData := rfl
@[simp] theorem resetEvent_freeCount (s : State) : (resetEvent s).freeCount = s.freeCount := rfl

@[simp] theorem storeTexels_cmd (ts : List Rgba) (s : State) : (storeTexels ts s).cmd = s.cmd := by
  unfold storeTexels; split <;> rfl
@[simp] theorem storeTexels_status (ts : List Rgba) (s : State) : (storeTexels ts s).status = s.status := by
  unfold storeTexels; split <;> rfl
@[simp] theorem storeTexels_cfg (ts : List Rgba) (s : State) : (storeTexels ts s).cfg = s.cfg := by
  unfold storeTexels; split <;> rfl
@[simp] theorem storeTexels_blkIn (ts : List Rgba) (s : State) : (storeTexels ts s).blkIn = s.blkIn := by
  unfold storeTexels; split <;> rfl
@[simp] theorem storeTexels_blkOut (ts : List Rgba) (s : State) : (storeTexels ts s).blkOut = s.blkOut := by
  unfold storeTexels; split <;> rfl
@[simp] theorem storeTexels_veParams (ts : List Rgba) (s : State) : (storeTexels ts s).veParams = s.veParams := by
  unfold storeTexels; split <;> rfl
@[simp] theorem storeTexels_nbParams (ts : List Rgba) (s : State) : (storeTexels ts s).nbParams = s.nbParams := by
  unfold storeTexels; split <;> rfl
@[simp] theorem storeTexels_wIseIn (ts : List Rgba) (s : State) : (storeTexels ts s).wIseIn = s.wIseIn := by
  unfold storeTexels; split <;> rfl
@[simp] theorem storeTexels_eIseIn (ts : List Rgba) (s : State) : (storeTexels ts s).eIseIn = s.eIseIn := by
  unfold storeTexels; split <;> rfl
@[simp] theorem storeTexels_phase (ts : List Rgba) (s : State) : (storeTexels ts s).phase = s.phase := by
  unfold storeTexels; split <;> rfl
@[simp] theorem storeTexels_blk (ts : List Rgba) (s : State) : (storeTexels ts s).blk = s.blk := by
  unfold storeTexels; split <;> rfl
@[simp] theorem storeTexels_bm (ts : List Rgba) (s : State) : (storeTexels ts s).bm = s.bm := by
  unfold storeTexels; split <;> rfl
@[simp] theorem storeTexels_host (ts : List Rgba) (s : State) : (storeTexels ts s).host = s.host := by
  unfold storeTexels; split <;> rfl
@[simp] theorem storeTexels_readData (ts : List Rgba) (s : State) : (storeTexels ts s).readData = s.readData := by
  unfold storeTexels; split <;> rfl
@[simp] theorem storeTexels_freeCount (ts : List Rgba) (s : State) : (storeTexels ts s).freeCount = s.freeCount := by
  unfold storeTexels; split <;> rfl

@[simp] theorem modifyIse_cmd (side : IseSide) (g : IseInput → IseInput) (s : State) :
    (modifyIse side g s).cmd = s.cmd := by cases side <;> rfl
@[simp] theorem modifyIse_status (side : IseSide) (g : IseInput → IseInput) (s : State) :
    (modifyIse side g s).status = s.status := by cases side <;> rfl
@[simp] theorem modifyIse_cfg (side : IseSide) (g : IseInput → IseInput) (s : State) :
    (modifyIse side g s).cfg = s.cfg := by cases side <;> rfl
@[simp] theorem modifyIse_blkIn (side : IseSide) (g : IseInput → IseInput) (s : State) :
    (modifyIse side g s).blkIn = s.blkIn := by cases side <;> rfl
@[simp] theorem modifyIse_blkOut (side : IseSide) (g : IseInput → IseInput) (s : State) :
    (modifyIse side g s).blkOut = s.blkOut := by cases side <;> rfl
@[simp] theorem modifyIse_veParams (side : IseSide) (g : IseInput → IseInput) (s : State) :
    (modifyIse side g s).veParams = s.veParams := by cases side <;> rfl
@[simp] theorem modifyIse_nbParams (side : IseSide) (g : IseInput → IseInput) (s : State) :
    (modifyIse side g s).nbParams = s.nbParams := by cases side <;> rfl
@[simp] theorem modifyIse_tx (side : IseSide) (g : IseInput → IseInput) (s : State) :
    (modifyIse side g s).tx = s.tx := by cases side <;> rfl
@[simp] theorem modifyIse_phase (side : IseSide) (g : IseInput → IseInput) (s : State) :
    (modifyIse side g s).phase = s.phase := by cases side <;> rfl
@[simp] theorem modifyIse_blk (side : IseSide) (g : IseInput → IseInput) (s : State) :
    (modifyIse side g s).blk = s.blk := by cases side <;> rfl
@[simp] theorem modifyIse_bm (side : IseSide) (g : IseInput → IseInput) (s : State) :
    (modifyIse side g s).bm = s.bm := by cases side <;> rfl
@[simp] theorem modifyIse_host (side : IseSide) (g : IseInput → IseInput) (s : State) :
    (modifyIse side g s).host = s.host := by cases side <;> rfl
@[simp] theorem modifyIse_readData (side : IseSide) (g : IseInput → IseInput) (s : State) :
    (modifyIse side g s).readData = s.readData := by cases side <;> rfl
@[simp] theorem modifyIse_freeCount (side : IseSide) (g : IseInput → IseInput) (s : State) :
    (modifyIse side g s).freeCount = s.freeCount := by cases side <;> rfl
@[simp] theorem modifyIse_weights (g : IseInput → IseInput) (s : State) :
    modifyIse .weights g s = { s with wIseIn := g s.wIseIn } := rfl
@[simp] theorem modifyIse_endpoints (g : IseInput → IseInput) (s : State) :
    modifyIse .endpoints g s = { s with eIseIn := g s.eIseIn } := rfl

end Sys2Proof.Machine
end

