-- ==== Sys2Proof/Laws/Outcomes.lean ====
section
/-! SUPPORT. What the shared operations of the meanings can do, said once each. -/

namespace Sys2Proof.Machine

/-! ### Footprints -/

theorem footprint_le : ∀ fmt : Nat, (footprint fmt).1 * (footprint fmt).2 ≤ 144 := by
  intro fmt
  unfold footprint
  split <;> decide

theorem texelCount_le (cfg : BitVec 6) : texelCount cfg ≤ 144 := footprint_le _

theorem texelCoords_length (bw bh : Nat) : (texelCoords bw bh).length = bw * bh := by
  simp [texelCoords, Nat.mul_comm]

theorem normalTexels_length (nv : NormalValues) (fs : List (List Nat → EndpointPair)) (blk : Nat) (bm : BlockModeInfo)
    (cfg : BitVec 6) : (normalTexels nv fs blk bm cfg).length = texelCount cfg := by
  simp [normalTexels, texelCoords_length, texelCount]

/-! ### The end of a command -/

/-- A refusal changes nothing but `STATUS` and the values that live inside the command. -/
theorem refuse_eq (c : Cause) (s : State) : refuse c s = .next (endCommand c true s) := rfl

theorem succeed_eq (s : State) : succeed s = .next (endCommand .none false s) := rfl

theorem finish_eq (ts : List Rgba) (c : Cause) (s : State) :
    finish ts c s = .next (endCommand c (decide (c = .veInfNan)) (storeTexels ts s)) := rfl

/-- A whole-block error: every texel of the footprint gets the error colour. -/
theorem errorBlock_eq (c : Cause) (s : State) :
    errorBlock c s = .next (endCommand c (decide (c = .veInfNan))
      (storeTexels (List.replicate (texelCount s.cfg) (errorColour (cfgSrgb s.cfg))) s)) := rfl

/-- `finish` with a texel for each place of the footprint keeps the canonical form of `TX`. -/
theorem finish_wf {ts : List Rgba} {c : Cause} {s t : State} (h : finish ts c s = .next t)
    (hl : ts.length ≤ 144) (hw : s.tx.wf = true) : t.tx.wf = true := by
  rw [finish_eq] at h
  cases h
  rw [endCommand_tx]
  unfold storeTexels
  split
  · refine Memory.wf_writeBytes hw ?_
    rw [texelsBytes_length]
    split <;> omega
  · exact hw

/-- `finish` leaves every byte of `TX` beyond the texels as it was. -/
theorem finish_tx_beyond {ts : List Rgba} {c : Cause} {s t : State} (h : finish ts c s = .next t) (a : Nat)
    (ha : (if cfgSrgb s.cfg then 4 else 16) * ts.length ≤ a) : t.tx.read a = s.tx.read a := by
  rw [finish_eq] at h
  cases h
  rw [endCommand_tx, storeTexels_read, texelsBytes_length, if_neg (by omega)]

/-! ### Block modes -/

/-- Everything `acceptMode` can do: one of the three checks of R306 to R308 fails, or the next step comes. -/
theorem acceptMode_cases (bm : BlockModeInfo) (s : State) :
    (64 < weightCount bm ∧ acceptMode bm s = errorBlock .weightCount s)
    ∨ (weightCount bm ≤ 64 ∧ (weightBits bm < 24 ∨ 96 < weightBits bm) ∧ acceptMode bm s = errorBlock .weightBits s)
    ∨ (weightCount bm ≤ 64 ∧ 24 ≤ weightBits bm ∧ weightBits bm ≤ 96
        ∧ (blockW s.cfg < bm.gridW ∨ blockH s.cfg < bm.gridH) ∧ acceptMode bm s = errorBlock .gridSize s)
    ∨ (weightCount bm ≤ 64 ∧ 24 ≤ weightBits bm ∧ weightBits bm ≤ 96 ∧ bm.gridW ≤ blockW s.cfg
        ∧ bm.gridH ≤ blockH s.cfg ∧ acceptMode bm s = .next (latchMode bm s)) := by
  unfold acceptMode
  split
  · exact .inl ⟨by omega, rfl⟩
  · split
    · exact .inr (.inl ⟨by omega, by omega, rfl⟩)
    · split
      · exact .inr (.inr (.inl ⟨by omega, by omega, by omega, by omega, rfl⟩))
      · exact .inr (.inr (.inr ⟨by omega, by omega, by omega, by omega, by omega, rfl⟩))

/-! ### Normal blocks -/

/-- Everything `assembleBlock` can do: one of the checks of R309 to R311 fails, or the texels are written. -/
theorem assembleBlock_cases (nv : NormalValues) (fs : List (List Nat → EndpointPair)) (blk : Nat) (s : State) :
    (∃ c, c ≠ .veInfNan ∧ assembleBlock nv fs blk s = errorBlock c s)
    ∨ (¬ (nv.nparts = 4 ∧ s.bm.isDualPlane = true) ∧ nv.ncev ≤ 18 ∧ (ceilDiv (13 * nv.ncev) 5 : Nat) ≤ nv.ncb
        ∧ assembleBlock nv fs blk s = finish (normalTexels nv fs blk s.bm s.cfg) (normalCause nv s.cfg) s) := by
  unfold assembleBlock
  split
  · exact .inl ⟨.dual4Part, by decide, rfl⟩
  · split
    · exact .inl ⟨.cevCount, by decide, rfl⟩
    · split
      · exact .inl ⟨.cevBits, by decide, rfl⟩
      · exact .inr ⟨by assumption, by omega, by omega, rfl⟩

/-- The cause of a block that passed its checks. -/
theorem normalCause_cases (nv : NormalValues) (cfg : BitVec 6) :
    normalCause nv cfg = .none ∨ normalCause nv cfg = .hdrCemInLdr := by
  unfold normalCause
  split <;> simp

/-! ### Commands -/

/-- Everything the first step of a decode can do. -/
theorem beginDecode_cases (c : BitVec 3) (s : State) :
    (cfgDecodeLegal s.cfg = true ∧ beginDecode c s = .next (latchBlock c s))
    ∨ (cfgDecodeLegal s.cfg = false ∧ beginDecode c s = refuse .cfgInvalid s) := by
  unfold beginDecode
  split
  · exact .inl ⟨by assumption, rfl⟩
  · exact .inr ⟨by simpa using ‹¬ cfgDecodeLegal s.cfg = true›, rfl⟩

end Sys2Proof.Machine
end

