-- ==== Sys2Proof/Laws/Disassembly.lean ====
section
/-! SUPPORT. Which blocks have a disassembly: those that `DECODE` neither refuses nor makes an error block of. -/

namespace Sys2Proof.Machine

/-- The outcomes of a block whose fields `DECODE` reads to the end: no error, or texels in error only. -/
def Cause.readsBlock (c : Cause) : Prop := c = .none ∨ c = .hdrCemInLdr

theorem extentsBad_iff (blk : Nat) :
    extentsBad (BitVec.ofNat 13 (getBits blk 12 24)) (BitVec.ofNat 13 (getBits blk 25 37))
        (BitVec.ofNat 13 (getBits blk 38 50)) (BitVec.ofNat 13 (getBits blk 51 63)) = true
      ↔ ¬ (getBits blk 12 24 = 0x1FFF ∧ getBits blk 25 37 = 0x1FFF ∧ getBits blk 38 50 = 0x1FFF
            ∧ getBits blk 51 63 = 0x1FFF)
          ∧ (getBits blk 25 37 ≤ getBits blk 12 24 ∨ getBits blk 51 63 ≤ getBits blk 38 50) := by
  have lt (low high : Nat) (h : high - low + 1 = 13) : getBits blk low high < 2 ^ 13 := by
    unfold getBits
    rw [h]
    exact Nat.mod_lt _ (by decide)
  have eq (x : Nat) (h : x < 2 ^ 13) : BitVec.ofNat 13 x = 0x1FFF#13 ↔ x = 0x1FFF := by
    rw [← BitVec.toNat_inj, BitVec.toNat_ofNat, Nat.mod_eq_of_lt h]
    rfl
  have h1 := lt 12 24 rfl
  have h2 := lt 25 37 rfl
  have h3 := lt 38 50 rfl
  have h4 := lt 51 63 rfl
  simp only [extentsBad, extentsAllOnes, Bool.and_eq_true, Bool.or_eq_true, Bool.not_eq_true', decide_eq_true_eq,
    BitVec.toNat_ofNat, Nat.mod_eq_of_lt h1, Nat.mod_eq_of_lt h2, Nat.mod_eq_of_lt h3, Nat.mod_eq_of_lt h4,
    ← Bool.not_eq_true, beq_iff_eq, eq _ h1, eq _ h2, eq _ h3, eq _ h4, and_assoc]

theorem voidChecks_iff (cfg : BitVec 6) (blk : Nat) :
    voidChecks cfg blk = true ↔ (voidOutcome cfg blk).1.readsBlock := by
  unfold voidChecks voidOutcome Cause.readsBlock
  simp only [← extentsBad_iff]
  generalize extentsBad _ _ _ _ = bad
  generalize f16IsInfOrNan (getBits blk 64 79) = r, f16IsInfOrNan (getBits blk 80 95) = g,
    f16IsInfOrNan (getBits blk 96 111) = b, f16IsInfOrNan (getBits blk 112 127) = a
  cases cfgHdrMode cfg <;> cases isBitSet blk 9 <;> cases bad <;> cases r <;> cases g <;> cases b <;> cases a <;>
    simp [errorOutcome]

theorem normalChecks_iff (cfg : BitVec 6) (bm : BlockModeInfo) (blk : Nat) :
    normalChecks cfg bm (blockValues bm blk) = true ↔ (normalOutcome cfg bm blk).1.readsBlock := by
  have hc := normalCause_cases (blockValues bm blk) cfg
  have h : normalChecks cfg bm (blockValues bm blk) = true ↔
      weightCount bm ≤ 64 ∧ 24 ≤ weightBits bm ∧ weightBits bm ≤ 96 ∧ bm.gridW ≤ blockW cfg ∧ bm.gridH ≤ blockH cfg
        ∧ ¬ ((blockValues bm blk).nparts = 4 ∧ bm.isDualPlane = true) ∧ (blockValues bm blk).ncev ≤ 18
        ∧ (ceilDiv (13 * (blockValues bm blk).ncev) 5 : Nat) ≤ (blockValues bm blk).ncb := by
    simp only [normalChecks, Bool.and_eq_true, Bool.not_eq_true', decide_eq_true_eq, ← Bool.not_eq_true, beq_iff_eq,
      and_assoc]
  rw [h]
  unfold normalOutcome Cause.readsBlock
  dsimp only
  split
  · simp [errorOutcome]; omega
  · split
    · simp [errorOutcome]; omega
    · split
      · simp [errorOutcome]; omega
      · split
        · simp_all [errorOutcome]
        · split
          · simp [errorOutcome]; omega
          · split
            · simp [errorOutcome]; omega
            · simp_all

/-- A block has a disassembly exactly where `DECODE` is not refused and makes no error block of it. -/
theorem disassemble_isSome (cfg : BitVec 6) (blk : Block) :
    (disassemble cfg blk).isSome = true ↔ cfgDecodeLegal cfg = true ∧ (decodeOutcome cfg blk).1.readsBlock := by
  have hv := voidChecks_iff cfg blk.toNat
  have hn := normalChecks_iff cfg (parseBlockMode (getBits blk.toNat 0 10)) blk.toNat
  unfold disassemble decodeOutcome
  dsimp only
  generalize parseBlockMode (getBits blk.toNat 0 10) = bm at hn ⊢
  by_cases he : bm.isError = true
  · simp [he, errorOutcome, Cause.readsBlock]
  · by_cases hve : bm.isVoidExtent = true
    · cases hl : cfgDecodeLegal cfg <;> simp [he, hve, ← hv]
    · cases hl : cfgDecodeLegal cfg <;> simp [he, hve, ← hn]

end Sys2Proof.Machine
end

