-- ==== Sys2Proof/Laws/Host.lean ====
section
/-! SUPPORT. What a step, a host write and a host read can do, said once each. -/

namespace Sys2Proof.Machine

/-! ### Register numbers -/

@[simp] theorem Register.ofNumber_number (r : Register) : Register.ofNumber r.number = some r := by cases r <;> rfl

/-- The numbers of registers are 0 to 8. -/
theorem Register.ofNumber_eq_none (n : Nat) : Register.ofNumber n = none ↔ 8 < n := by
  unfold Register.ofNumber
  split <;> simp_all
  omega

/-- A port is what its own register number and piece address. -/
theorem portAt_register {p : Port} {r : Register} {part : RegisterPart} (h : p.register = some (r, part)) :
    portAt r.number part = some p := by
  simp only [portAt, Register.ofNumber_number, Option.bind_some]
  cases p <;> simp_all [Port.register] <;> obtain ⟨rfl, rfl⟩ := h <;> first
    | rfl
    | (rename_i side _; cases side <;> rfl)
    | (rename_i side _ _; cases side <;> rfl)
    | (rename_i side; cases side <;> rfl)

/-! ### Accesses -/

/-- Everything a host write can do when it goes on: the address exists, and a write while a command runs changes
nothing. -/
theorem hostWrite_next {p : Port} {v : Nat} {s t : State} (h : hostWrite p v s = .next t) :
    portFault p = none ∧ t = if statusBusy s.status then s else writePort p v s := by
  unfold hostWrite at h
  split at h
  · cases h
  · exact ⟨by assumption, by cases h; rfl⟩

/-- Everything a read of a held value can do when it goes on. -/
theorem settledRead_next {p : Port} {s t : State} (h : settledRead p s = .next t) :
    ∃ v, portValue p s = some v ∧ t = { s with readData := v } := by
  unfold settledRead at h
  split at h
  · exact ⟨_, by assumption, by cases h; rfl⟩
  · cases h
  · cases h

/-- Everything a host read can do when it goes on: a free value while a command runs, or the value held. -/
theorem hostRead_next {p : Port} {s t : State} (h : hostRead p s = .next t) :
    portFault p = none
    ∧ ((statusBusy s.status = true ∧ ∃ v, busyValue p (Config.busyRead s.freeCount) = some v
          ∧ t = { s with readData := v, freeCount := s.freeCount + 1 })
      ∨ ((statusBusy s.status = true → busyValue p (Config.busyRead s.freeCount) = none)
          ∧ ∃ v, portValue p s = some v ∧ t = { s with readData := v })) := by
  unfold hostRead at h
  split at h
  · cases h
  · refine ⟨by assumption, ?_⟩
    split at h
    · split at h
      · exact .inl ⟨by assumption, _, by assumption, by cases h; rfl⟩
      · exact .inr ⟨fun _ => by assumption, settledRead_next h⟩
    · exact .inr ⟨fun hb => absurd hb ‹_›, settledRead_next h⟩

/-- Everything the codec's own step can do: nothing while no command runs, else the instruction fetched. -/
theorem codecStep_cases (s : State) :
    (fetch s = none ∧ codecStep s = .next s) ∨ ∃ i, fetch s = some i ∧ codecStep s = exec i s := by
  unfold codecStep
  split
  · exact .inl ⟨by assumption, rfl⟩
  · exact .inr ⟨_, by assumption, rfl⟩

/-- Everything a step can do when it goes on. -/
theorem step_next {s t : State} (h : step s = .next t) :
    (s.host = [] ∧ codecStep s = .next t)
    ∨ (∃ rest, s.host = .tick :: rest ∧ codecStep { s with host := rest } = .next t)
    ∨ (∃ rest, s.host = .waitDone :: rest ∧ statusBusy s.status = true ∧ codecStep s = .next t)
    ∨ (∃ rest, s.host = .waitDone :: rest ∧ statusBusy s.status = false ∧ t = { s with host := rest })
    ∨ (∃ p v rest, s.host = .write p v :: rest ∧ hostWrite p v { s with host := rest } = .next t)
    ∨ (∃ p rest, s.host = .read p :: rest ∧ hostRead p { s with host := rest } = .next t)
    ∨ (∃ rest, s.host = .reset :: rest ∧ t = resetEvent { s with host := rest }) := by
  unfold step at h
  split at h
  · exact .inl ⟨by assumption, h⟩
  · exact .inr (.inl ⟨_, by assumption, h⟩)
  · split at h
    · exact .inr (.inr (.inl ⟨_, by assumption, by assumption, h⟩))
    · exact .inr (.inr (.inr (.inl ⟨_, by assumption, by simp_all, by cases h; rfl⟩)))
  · exact .inr (.inr (.inr (.inr (.inl ⟨_, _, _, by assumption, h⟩))))
  · exact .inr (.inr (.inr (.inr (.inr (.inl ⟨_, _, by assumption, h⟩)))))
  · exact .inr (.inr (.inr (.inr (.inr (.inr ⟨_, by assumption, by cases h; rfl⟩)))))

end Sys2Proof.Machine
end

