-- ==== Sys2Proof/Laws/PerInstr.lean ====
section
/-! SUPPORT. Statements for all instructions, made per instruction. -/

namespace Sys2Proof.Laws

/-- How many bits the word of an instruction has: 3 for a command, 128 for a part of a block. -/
def wordWidth (i : Instr) : Nat :=
  match i.space with
  | .command => 3
  | .blockMode => 128
  | .endpoint => 128

/-- The encoded word of every instruction fits its width: storing it loses no bit. -/
def EncodedFits.Statement (i : Instr) : Prop := encodeWord i < 2 ^ wordWidth i

theorem fits_one {n c k : Nat} (hc : c < 2 ^ 11) (x : BitVec n) (hk : 2 ^ n * 2 ^ k ≤ 2 ^ 11) :
    c + x.toNat * 2 ^ k < 2 ^ 128 := by
  have h := Nat.mul_lt_mul_of_pos_right x.isLt (Nat.two_pow_pos k)
  omega

theorem fits_two {c : Nat} (hc : c < 2 ^ 11) (hi lo : BitVec 2) :
    c + hi.toNat * 2 ^ 9 + lo.toNat * 2 ^ 4 < 2 ^ 128 := by omega

theorem fits_dhr {c : Nat} (hc : c < 2 ^ 11) (d h r0 : Bool) : c + encodeDHR d h r0 < 2 ^ 128 := by
  have h1 := Bool.toNat_le d
  have h2 := Bool.toNat_le h
  have h3 := Bool.toNat_le r0
  unfold encodeDHR
  omega

theorem fits_a {c : Nat} (hc : c < 2 ^ 11) (d h r0 : Bool) (a : Nat) :
    c + encodeDHR d h r0 + a % 4 * 2 ^ 5 < 2 ^ 128 := by
  have h1 := Bool.toNat_le d
  have h2 := Bool.toNat_le h
  have h3 := Bool.toNat_le r0
  unfold encodeDHR
  omega

theorem fits_ba {c n : Nat} (hc : c < 2 ^ 11 ∧ n + 1 ≤ 4) (d h r0 : Bool) (b a : Nat) :
    c + encodeDHR d h r0 + b % (n + 1) * 2 ^ 7 + a % 4 * 2 ^ 5 < 2 ^ 128 := by
  have h1 := Bool.toNat_le d
  have h2 := Bool.toNat_le h
  have h3 := Bool.toNat_le r0
  have h4 : b % (n + 1) < n + 1 := Nat.mod_lt b (Nat.succ_pos n)
  unfold encodeDHR
  omega

theorem fits_l9 {c : Nat} (hc : c < 2 ^ 11) (b a : Nat) (r0 : Bool) :
    c + b % 4 * 2 ^ 9 + a % 4 * 2 ^ 5 + r0.toNat * 2 ^ 4 < 2 ^ 128 := by
  have h3 := Bool.toNat_le r0
  omega

theorem fits_single {c : Nat} (hc : c < 2 ^ 17) (data : BitVec 111) : c + encodeSingle data < 2 ^ 128 := by
  unfold encodeSingle
  omega

theorem fits_multi {c : Nat} (hc : c + 1023 * 2 ^ 13 < 2 ^ 29) (seed : BitVec 10) (data : BitVec 99) :
    c + encodeMulti seed data < 2 ^ 128 := by
  unfold encodeMulti
  omega

theorem fits_indep {c : Nat} (hc : c + 1023 * 2 ^ 13 < 2 ^ 25) (seed : BitVec 10) (str4 : BitVec 4) (data : BitVec 99) :
    c + encodeMulti seed data + str4.toNat * 2 ^ 25 < 2 ^ 128 := by
  unfold encodeMulti
  omega

theorem EncodedFits.voidExtent (d : Bool) (rsv : BitVec 2) (minS maxS minT maxT : BitVec 13) (cr cg cb ca : BitVec 16)
    : EncodedFits.Statement (.voidExtent d rsv minS maxS minT maxT cr cg cb ca) :=
  by
  have h1 := Bool.toNat_le d
  simp only [EncodedFits.Statement, wordWidth, Instr.space, encodeWord]
  omega

theorem EncodedFits.reservedLow4Zero (x : BitVec 7) : EncodedFits.Statement (.reservedLow4Zero x) :=
  fits_one (by decide) x (by decide)

theorem EncodedFits.reserved111_01 (hi lo : BitVec 2) : EncodedFits.Statement (.reserved111_01 hi lo) :=
  fits_two (by decide) hi lo

theorem EncodedFits.reserved111_10 (hi lo : BitVec 2) : EncodedFits.Statement (.reserved111_10 hi lo) :=
  fits_two (by decide) hi lo

theorem EncodedFits.reserved111_11_00 (hi : BitVec 2) : EncodedFits.Statement (.reserved111_11_00 hi) :=
  fits_one (by decide) hi (by decide)

theorem EncodedFits.reserved111_11_01 (hi : BitVec 2) : EncodedFits.Statement (.reserved111_11_01 hi) :=
  fits_one (by decide) hi (by decide)

theorem EncodedFits.reserved111_11_10 (hi : BitVec 2) : EncodedFits.Statement (.reserved111_11_10 hi) :=
  fits_one (by decide) hi (by decide)

theorem EncodedFits.modeL0R1 (d h : Bool) (b a : Nat) (r0 : Bool) : EncodedFits.Statement (.modeL0R1 d h b a r0) :=
  fits_ba (by decide) d h r0 _ _

theorem EncodedFits.modeL0R2 (d h : Bool) (b a : Nat) (r0 : Bool) : EncodedFits.Statement (.modeL0R2 d h b a r0) :=
  fits_ba (by decide) d h r0 _ _

theorem EncodedFits.modeL0R3 (d h : Bool) (b a : Nat) (r0 : Bool) : EncodedFits.Statement (.modeL0R3 d h b a r0) :=
  fits_ba (by decide) d h r0 _ _

theorem EncodedFits.modeL1R1 (d h : Bool) (b a : Nat) (r0 : Bool) : EncodedFits.Statement (.modeL1R1 d h b a r0) :=
  fits_ba (by decide) d h r0 _ _

theorem EncodedFits.modeL1R2 (d h : Bool) (b a : Nat) (r0 : Bool) : EncodedFits.Statement (.modeL1R2 d h b a r0) :=
  fits_ba (by decide) d h r0 _ _

theorem EncodedFits.modeL1R3 (d h : Bool) (b a : Nat) (r0 : Bool) : EncodedFits.Statement (.modeL1R3 d h b a r0) :=
  fits_ba (by decide) d h r0 _ _

theorem EncodedFits.modeL2R1 (d h : Bool) (b a : Nat) (r0 : Bool) : EncodedFits.Statement (.modeL2R1 d h b a r0) :=
  fits_ba (by decide) d h r0 _ _

theorem EncodedFits.modeL2R2 (d h : Bool) (b a : Nat) (r0 : Bool) : EncodedFits.Statement (.modeL2R2 d h b a r0) :=
  fits_ba (by decide) d h r0 _ _

theorem EncodedFits.modeL2R3 (d h : Bool) (b a : Nat) (r0 : Bool) : EncodedFits.Statement (.modeL2R3 d h b a r0) :=
  fits_ba (by decide) d h r0 _ _

theorem EncodedFits.modeL3R1 (d h : Bool) (b a : Nat) (r0 : Bool) : EncodedFits.Statement (.modeL3R1 d h b a r0) :=
  fits_ba (by decide) d h r0 _ _

theorem EncodedFits.modeL3R2 (d h : Bool) (b a : Nat) (r0 : Bool) : EncodedFits.Statement (.modeL3R2 d h b a r0) :=
  fits_ba (by decide) d h r0 _ _

theorem EncodedFits.modeL3R3 (d h : Bool) (b a : Nat) (r0 : Bool) : EncodedFits.Statement (.modeL3R3 d h b a r0) :=
  fits_ba (by decide) d h r0 _ _

theorem EncodedFits.modeL4R1 (d h : Bool) (b a : Nat) (r0 : Bool) : EncodedFits.Statement (.modeL4R1 d h b a r0) :=
  fits_ba (by decide) d h r0 _ _

theorem EncodedFits.modeL4R2 (d h : Bool) (b a : Nat) (r0 : Bool) : EncodedFits.Statement (.modeL4R2 d h b a r0) :=
  fits_ba (by decide) d h r0 _ _

theorem EncodedFits.modeL4R3 (d h : Bool) (b a : Nat) (r0 : Bool) : EncodedFits.Statement (.modeL4R3 d h b a r0) :=
  fits_ba (by decide) d h r0 _ _

theorem EncodedFits.modeL5R1 (d h : Bool) (a : Nat) (r0 : Bool) : EncodedFits.Statement (.modeL5R1 d h a r0) :=
  fits_a (by decide) d h r0 _

theorem EncodedFits.modeL5R2 (d h : Bool) (a : Nat) (r0 : Bool) : EncodedFits.Statement (.modeL5R2 d h a r0) :=
  fits_a (by decide) d h r0 _

theorem EncodedFits.modeL5R3 (d h : Bool) (a : Nat) (r0 : Bool) : EncodedFits.Statement (.modeL5R3 d h a r0) :=
  fits_a (by decide) d h r0 _

theorem EncodedFits.modeL6R1 (d h : Bool) (a : Nat) (r0 : Bool) : EncodedFits.Statement (.modeL6R1 d h a r0) :=
  fits_a (by decide) d h r0 _

theorem EncodedFits.modeL6R2 (d h : Bool) (a : Nat) (r0 : Bool) : EncodedFits.Statement (.modeL6R2 d h a r0) :=
  fits_a (by decide) d h r0 _

theorem EncodedFits.modeL6R3 (d h : Bool) (a : Nat) (r0 : Bool) : EncodedFits.Statement (.modeL6R3 d h a r0) :=
  fits_a (by decide) d h r0 _

theorem EncodedFits.modeL7R1 (d h r0 : Bool) : EncodedFits.Statement (.modeL7R1 d h r0) := fits_dhr (by decide) d h r0

theorem EncodedFits.modeL7R2 (d h r0 : Bool) : EncodedFits.Statement (.modeL7R2 d h r0) := fits_dhr (by decide) d h r0

theorem EncodedFits.modeL7R3 (d h r0 : Bool) : EncodedFits.Statement (.modeL7R3 d h r0) := fits_dhr (by decide) d h r0

theorem EncodedFits.modeL8R1 (d h r0 : Bool) : EncodedFits.Statement (.modeL8R1 d h r0) := fits_dhr (by decide) d h r0

theorem EncodedFits.modeL8R2 (d h r0 : Bool) : EncodedFits.Statement (.modeL8R2 d h r0) := fits_dhr (by decide) d h r0

theorem EncodedFits.modeL8R3 (d h r0 : Bool) : EncodedFits.Statement (.modeL8R3 d h r0) := fits_dhr (by decide) d h r0

theorem EncodedFits.modeL9R1 (b a : Nat) (r0 : Bool) : EncodedFits.Statement (.modeL9R1 b a r0) :=
  fits_l9 (by decide) _ _ r0

theorem EncodedFits.modeL9R2 (b a : Nat) (r0 : Bool) : EncodedFits.Statement (.modeL9R2 b a r0) :=
  fits_l9 (by decide) _ _ r0

theorem EncodedFits.modeL9R3 (b a : Nat) (r0 : Bool) : EncodedFits.Statement (.modeL9R3 b a r0) :=
  fits_l9 (by decide) _ _ r0

theorem EncodedFits.cem0LdrLumDirect (data : BitVec 111) : EncodedFits.Statement (.cem0LdrLumDirect data) :=
  fits_single (by decide) data

theorem EncodedFits.cem1LdrLumBaseOffset (data : BitVec 111) : EncodedFits.Statement (.cem1LdrLumBaseOffset data) :=
  fits_single (by decide) data

theorem EncodedFits.cem2HdrLumLarge (data : BitVec 111) : EncodedFits.Statement (.cem2HdrLumLarge data) :=
  fits_single (by decide) data

theorem EncodedFits.cem3HdrLumSmall (data : BitVec 111) : EncodedFits.Statement (.cem3HdrLumSmall data) :=
  fits_single (by decide) data

theorem EncodedFits.cem4LdrLumaDirect (data : BitVec 111) : EncodedFits.Statement (.cem4LdrLumaDirect data) :=
  fits_single (by decide) data

theorem EncodedFits.cem5LdrLumaBaseOffset (data : BitVec 111) : EncodedFits.Statement (.cem5LdrLumaBaseOffset data) :=
  fits_single (by decide) data

theorem EncodedFits.cem6LdrRgbBaseScale (data : BitVec 111) : EncodedFits.Statement (.cem6LdrRgbBaseScale data) :=
  fits_single (by decide) data

theorem EncodedFits.cem7HdrRgbBaseScale (data : BitVec 111) : EncodedFits.Statement (.cem7HdrRgbBaseScale data) :=
  fits_single (by decide) data

theorem EncodedFits.cem8LdrRgbDirect (data : BitVec 111) : EncodedFits.Statement (.cem8LdrRgbDirect data) :=
  fits_single (by decide) data

theorem EncodedFits.cem9LdrRgbBaseOffset (data : BitVec 111) : EncodedFits.Statement (.cem9LdrRgbBaseOffset data) :=
  fits_single (by decide) data

theorem EncodedFits.cem10LdrRgbBaseScale2a (data : BitVec 111)
    : EncodedFits.Statement (.cem10LdrRgbBaseScale2a data) :=
  fits_single (by decide) data

theorem EncodedFits.cem11HdrRgbDirect (data : BitVec 111) : EncodedFits.Statement (.cem11HdrRgbDirect data) :=
  fits_single (by decide) data

theorem EncodedFits.cem12LdrRgbaDirect (data : BitVec 111) : EncodedFits.Statement (.cem12LdrRgbaDirect data) :=
  fits_single (by decide) data

theorem EncodedFits.cem13LdrRgbaBaseOffset (data : BitVec 111)
    : EncodedFits.Statement (.cem13LdrRgbaBaseOffset data) :=
  fits_single (by decide) data

theorem EncodedFits.cem14HdrRgbLdrAlpha (data : BitVec 111) : EncodedFits.Statement (.cem14HdrRgbLdrAlpha data) :=
  fits_single (by decide) data

theorem EncodedFits.cem15HdrRgbHdrAlpha (data : BitVec 111) : EncodedFits.Statement (.cem15HdrRgbHdrAlpha data) :=
  fits_single (by decide) data

theorem EncodedFits.p2SharedCem0LdrLumDirect (seed : BitVec 10) (data : BitVec 99)
    : EncodedFits.Statement (.p2SharedCem0LdrLumDirect seed data) :=
  fits_multi (by decide) seed data

theorem EncodedFits.p2SharedCem1LdrLumBaseOffset (seed : BitVec 10) (data : BitVec 99)
    : EncodedFits.Statement (.p2SharedCem1LdrLumBaseOffset seed data) :=
  fits_multi (by decide) seed data

theorem EncodedFits.p2SharedCem2HdrLumLarge (seed : BitVec 10) (data : BitVec 99)
    : EncodedFits.Statement (.p2SharedCem2HdrLumLarge seed data) :=
  fits_multi (by decide) seed data

theorem EncodedFits.p2SharedCem3HdrLumSmall (seed : BitVec 10) (data : BitVec 99)
    : EncodedFits.Statement (.p2SharedCem3HdrLumSmall seed data) :=
  fits_multi (by decide) seed data

theorem EncodedFits.p2SharedCem4LdrLumaDirect (seed : BitVec 10) (data : BitVec 99)
    : EncodedFits.Statement (.p2SharedCem4LdrLumaDirect seed data) :=
  fits_multi (by decide) seed data

theorem EncodedFits.p2SharedCem5LdrLumaBaseOffset (seed : BitVec 10) (data : BitVec 99)
    : EncodedFits.Statement (.p2SharedCem5LdrLumaBaseOffset seed data) :=
  fits_multi (by decide) seed data

theorem EncodedFits.p2SharedCem6LdrRgbBaseScale (seed : BitVec 10) (data : BitVec 99)
    : EncodedFits.Statement (.p2SharedCem6LdrRgbBaseScale seed data) :=
  fits_multi (by decide) seed data

theorem EncodedFits.p2SharedCem7HdrRgbBaseScale (seed : BitVec 10) (data : BitVec 99)
    : EncodedFits.Statement (.p2SharedCem7HdrRgbBaseScale seed data) :=
  fits_multi (by decide) seed data

theorem EncodedFits.p2SharedCem8LdrRgbDirect (seed : BitVec 10) (data : BitVec 99)
    : EncodedFits.Statement (.p2SharedCem8LdrRgbDirect seed data) :=
  fits_multi (by decide) seed data

theorem EncodedFits.p2SharedCem9LdrRgbBaseOffset (seed : BitVec 10) (data : BitVec 99)
    : EncodedFits.Statement (.p2SharedCem9LdrRgbBaseOffset seed data) :=
  fits_multi (by decide) seed data

theorem EncodedFits.p2SharedCem10LdrRgbBaseScale2a (seed : BitVec 10) (data : BitVec 99)
    : EncodedFits.Statement (.p2SharedCem10LdrRgbBaseScale2a seed data) :=
  fits_multi (by decide) seed data

theorem EncodedFits.p2SharedCem11HdrRgbDirect (seed : BitVec 10) (data : BitVec 99)
    : EncodedFits.Statement (.p2SharedCem11HdrRgbDirect seed data) :=
  fits_multi (by decide) seed data

theorem EncodedFits.p2SharedCem12LdrRgbaDirect (seed : BitVec 10) (data : BitVec 99)
    : EncodedFits.Statement (.p2SharedCem12LdrRgbaDirect seed data) :=
  fits_multi (by decide) seed data

theorem EncodedFits.p2SharedCem13LdrRgbaBaseOffset (seed : BitVec 10) (data : BitVec 99)
    : EncodedFits.Statement (.p2SharedCem13LdrRgbaBaseOffset seed data) :=
  fits_multi (by decide) seed data

theorem EncodedFits.p2SharedCem14HdrRgbLdrAlpha (seed : BitVec 10) (data : BitVec 99)
    : EncodedFits.Statement (.p2SharedCem14HdrRgbLdrAlpha seed data) :=
  fits_multi (by decide) seed data

theorem EncodedFits.p2SharedCem15HdrRgbHdrAlpha (seed : BitVec 10) (data : BitVec 99)
    : EncodedFits.Statement (.p2SharedCem15HdrRgbHdrAlpha seed data) :=
  fits_multi (by decide) seed data

theorem EncodedFits.p2IndepSel1 (seed : BitVec 10) (str4 : BitVec 4) (data : BitVec 99)
    : EncodedFits.Statement (.p2IndepSel1 seed str4 data) :=
  fits_indep (by decide) seed str4 data

theorem EncodedFits.p2IndepSel2 (seed : BitVec 10) (str4 : BitVec 4) (data : BitVec 99)
    : EncodedFits.Statement (.p2IndepSel2 seed str4 data) :=
  fits_indep (by decide) seed str4 data

theorem EncodedFits.p2IndepSel3 (seed : BitVec 10) (str4 : BitVec 4) (data : BitVec 99)
    : EncodedFits.Statement (.p2IndepSel3 seed str4 data) :=
  fits_indep (by decide) seed str4 data

theorem EncodedFits.p3SharedCem0LdrLumDirect (seed : BitVec 10) (data : BitVec 99)
    : EncodedFits.Statement (.p3SharedCem0LdrLumDirect seed data) :=
  fits_multi (by decide) seed data

theorem EncodedFits.p3SharedCem1LdrLumBaseOffset (seed : BitVec 10) (data : BitVec 99)
    : EncodedFits.Statement (.p3SharedCem1LdrLumBaseOffset seed data) :=
  fits_multi (by decide) seed data

theorem EncodedFits.p3SharedCem2HdrLumLarge (seed : BitVec 10) (data : BitVec 99)
    : EncodedFits.Statement (.p3SharedCem2HdrLumLarge seed data) :=
  fits_multi (by decide) seed data

theorem EncodedFits.p3SharedCem3HdrLumSmall (seed : BitVec 10) (data : BitVec 99)
    : EncodedFits.Statement (.p3SharedCem3HdrLumSmall seed data) :=
  fits_multi (by decide) seed data

theorem EncodedFits.p3SharedCem4LdrLumaDirect (seed : BitVec 10) (data : BitVec 99)
    : EncodedFits.Statement (.p3SharedCem4LdrLumaDirect seed data) :=
  fits_multi (by decide) seed data

theorem EncodedFits.p3SharedCem5LdrLumaBaseOffset (seed : BitVec 10) (data : BitVec 99)
    : EncodedFits.Statement (.p3SharedCem5LdrLumaBaseOffset seed data) :=
  fits_multi (by decide) seed data

theorem EncodedFits.p3SharedCem6LdrRgbBaseScale (seed : BitVec 10) (data : BitVec 99)
    : EncodedFits.Statement (.p3SharedCem6LdrRgbBaseScale seed data) :=
  fits_multi (by decide) seed data

theorem EncodedFits.p3SharedCem7HdrRgbBaseScale (seed : BitVec 10) (data : BitVec 99)
    : EncodedFits.Statement (.p3SharedCem7HdrRgbBaseScale seed data) :=
  fits_multi (by decide) seed data

theorem EncodedFits.p3SharedCem8LdrRgbDirect (seed : BitVec 10) (data : BitVec 99)
    : EncodedFits.Statement (.p3SharedCem8LdrRgbDirect seed data) :=
  fits_multi (by decide) seed data

theorem EncodedFits.p3SharedCem9LdrRgbBaseOffset (seed : BitVec 10) (data : BitVec 99)
    : EncodedFits.Statement (.p3SharedCem9LdrRgbBaseOffset seed data) :=
  fits_multi (by decide) seed data

theorem EncodedFits.p3SharedCem10LdrRgbBaseScale2a (seed : BitVec 10) (data : BitVec 99)
    : EncodedFits.Statement (.p3SharedCem10LdrRgbBaseScale2a seed data) :=
  fits_multi (by decide) seed data

theorem EncodedFits.p3SharedCem11HdrRgbDirect (seed : BitVec 10) (data : BitVec 99)
    : EncodedFits.Statement (.p3SharedCem11HdrRgbDirect seed data) :=
  fits_multi (by decide) seed data

theorem EncodedFits.p3SharedCem12LdrRgbaDirect (seed : BitVec 10) (data : BitVec 99)
    : EncodedFits.Statement (.p3SharedCem12LdrRgbaDirect seed data) :=
  fits_multi (by decide) seed data

theorem EncodedFits.p3SharedCem13LdrRgbaBaseOffset (seed : BitVec 10) (data : BitVec 99)
    : EncodedFits.Statement (.p3SharedCem13LdrRgbaBaseOffset seed data) :=
  fits_multi (by decide) seed data

theorem EncodedFits.p3SharedCem14HdrRgbLdrAlpha (seed : BitVec 10) (data : BitVec 99)
    : EncodedFits.Statement (.p3SharedCem14HdrRgbLdrAlpha seed data) :=
  fits_multi (by decide) seed data

theorem EncodedFits.p3SharedCem15HdrRgbHdrAlpha (seed : BitVec 10) (data : BitVec 99)
    : EncodedFits.Statement (.p3SharedCem15HdrRgbHdrAlpha seed data) :=
  fits_multi (by decide) seed data

theorem EncodedFits.p3IndepSel1 (seed : BitVec 10) (str4 : BitVec 4) (data : BitVec 99)
    : EncodedFits.Statement (.p3IndepSel1 seed str4 data) :=
  fits_indep (by decide) seed str4 data

theorem EncodedFits.p3IndepSel2 (seed : BitVec 10) (str4 : BitVec 4) (data : BitVec 99)
    : EncodedFits.Statement (.p3IndepSel2 seed str4 data) :=
  fits_indep (by decide) seed str4 data

theorem EncodedFits.p3IndepSel3 (seed : BitVec 10) (str4 : BitVec 4) (data : BitVec 99)
    : EncodedFits.Statement (.p3IndepSel3 seed str4 data) :=
  fits_indep (by decide) seed str4 data

theorem EncodedFits.p4SharedCem0LdrLumDirect (seed : BitVec 10) (data : BitVec 99)
    : EncodedFits.Statement (.p4SharedCem0LdrLumDirect seed data) :=
  fits_multi (by decide) seed data

theorem EncodedFits.p4SharedCem1LdrLumBaseOffset (seed : BitVec 10) (data : BitVec 99)
    : EncodedFits.Statement (.p4SharedCem1LdrLumBaseOffset seed data) :=
  fits_multi (by decide) seed data

theorem EncodedFits.p4SharedCem2HdrLumLarge (seed : BitVec 10) (data : BitVec 99)
    : EncodedFits.Statement (.p4SharedCem2HdrLumLarge seed data) :=
  fits_multi (by decide) seed data

theorem EncodedFits.p4SharedCem3HdrLumSmall (seed : BitVec 10) (data : BitVec 99)
    : EncodedFits.Statement (.p4SharedCem3HdrLumSmall seed data) :=
  fits_multi (by decide) seed data

theorem EncodedFits.p4SharedCem4LdrLumaDirect (seed : BitVec 10) (data : BitVec 99)
    : EncodedFits.Statement (.p4SharedCem4LdrLumaDirect seed data) :=
  fits_multi (by decide) seed data

theorem EncodedFits.p4SharedCem5LdrLumaBaseOffset (seed : BitVec 10) (data : BitVec 99)
    : EncodedFits.Statement (.p4SharedCem5LdrLumaBaseOffset seed data) :=
  fits_multi (by decide) seed data

theorem EncodedFits.p4SharedCem6LdrRgbBaseScale (seed : BitVec 10) (data : BitVec 99)
    : EncodedFits.Statement (.p4SharedCem6LdrRgbBaseScale seed data) :=
  fits_multi (by decide) seed data

theorem EncodedFits.p4SharedCem7HdrRgbBaseScale (seed : BitVec 10) (data : BitVec 99)
    : EncodedFits.Statement (.p4SharedCem7HdrRgbBaseScale seed data) :=
  fits_multi (by decide) seed data

theorem EncodedFits.p4SharedCem8LdrRgbDirect (seed : BitVec 10) (data : BitVec 99)
    : EncodedFits.Statement (.p4SharedCem8LdrRgbDirect seed data) :=
  fits_multi (by decide) seed data

theorem EncodedFits.p4SharedCem9LdrRgbBaseOffset (seed : BitVec 10) (data : BitVec 99)
    : EncodedFits.Statement (.p4SharedCem9LdrRgbBaseOffset seed data) :=
  fits_multi (by decide) seed data

theorem EncodedFits.p4SharedCem10LdrRgbBaseScale2a (seed : BitVec 10) (data : BitVec 99)
    : EncodedFits.Statement (.p4SharedCem10LdrRgbBaseScale2a seed data) :=
  fits_multi (by decide) seed data

theorem EncodedFits.p4SharedCem11HdrRgbDirect (seed : BitVec 10) (data : BitVec 99)
    : EncodedFits.Statement (.p4SharedCem11HdrRgbDirect seed data) :=
  fits_multi (by decide) seed data

theorem EncodedFits.p4SharedCem12LdrRgbaDirect (seed : BitVec 10) (data : BitVec 99)
    : EncodedFits.Statement (.p4SharedCem12LdrRgbaDirect seed data) :=
  fits_multi (by decide) seed data

theorem EncodedFits.p4SharedCem13LdrRgbaBaseOffset (seed : BitVec 10) (data : BitVec 99)
    : EncodedFits.Statement (.p4SharedCem13LdrRgbaBaseOffset seed data) :=
  fits_multi (by decide) seed data

theorem EncodedFits.p4SharedCem14HdrRgbLdrAlpha (seed : BitVec 10) (data : BitVec 99)
    : EncodedFits.Statement (.p4SharedCem14HdrRgbLdrAlpha seed data) :=
  fits_multi (by decide) seed data

theorem EncodedFits.p4SharedCem15HdrRgbHdrAlpha (seed : BitVec 10) (data : BitVec 99)
    : EncodedFits.Statement (.p4SharedCem15HdrRgbHdrAlpha seed data) :=
  fits_multi (by decide) seed data

theorem EncodedFits.p4IndepSel1 (seed : BitVec 10) (str4 : BitVec 4) (data : BitVec 99)
    : EncodedFits.Statement (.p4IndepSel1 seed str4 data) :=
  fits_indep (by decide) seed str4 data

theorem EncodedFits.p4IndepSel2 (seed : BitVec 10) (str4 : BitVec 4) (data : BitVec 99)
    : EncodedFits.Statement (.p4IndepSel2 seed str4 data) :=
  fits_indep (by decide) seed str4 data

theorem EncodedFits.p4IndepSel3 (seed : BitVec 10) (str4 : BitVec 4) (data : BitVec 99)
    : EncodedFits.Statement (.p4IndepSel3 seed str4 data) :=
  fits_indep (by decide) seed str4 data

theorem EncodedFits.nop : EncodedFits.Statement (.nop) := by unfold EncodedFits.Statement; decide

theorem EncodedFits.decode : EncodedFits.Statement (.decode) := by unfold EncodedFits.Statement; decide

theorem EncodedFits.isvalid : EncodedFits.Statement (.isvalid) := by unfold EncodedFits.Statement; decide

theorem EncodedFits.encVoid : EncodedFits.Statement (.encVoid) := by unfold EncodedFits.Statement; decide

theorem EncodedFits.encNormal : EncodedFits.Statement (.encNormal) := by unfold EncodedFits.Statement; decide

theorem EncodedFits.genDefault : EncodedFits.Statement (.genDefault) := by unfold EncodedFits.Statement; decide

theorem EncodedFits.reserved6 : EncodedFits.Statement (.reserved6) := by unfold EncodedFits.Statement; decide

theorem EncodedFits.reserved7 : EncodedFits.Statement (.reserved7) := by unfold EncodedFits.Statement; decide

end Sys2Proof.Laws
end

