-- ==== Sys2Proof/Laws/Protocol.lean ====
section
/-! SUPPORT. What the premise `Protocol` gives: no write is lost, and no read of an output returns a free value. -/

namespace Sys2Proof.Machine

/-- While no command runs, the codec's own step changes nothing. -/
theorem codecStep_idle {s : State} (h : s.phase = .idle) : codecStep s = .next s := by
  simp [codecStep, fetch, fetchBytes, h]

theorem phaseWf_idle {s : State} (hp : phaseWf s = true) (hb : statusBusy s.status = false) : s.phase = .idle := by
  simpa [phaseWf, hb] using hp

/-- A read of `STATUS` while a command runs returns `BUSY` = 1. -/
theorem busyValue_status_odd {free v : Nat} (h : busyValue .status free = some v) : v % 2 = 1 := by
  simp only [busyValue, Option.some.injEq] at h
  omega

@[simp] theorem reset_busy : statusBusy State.reset.status = false := by decide

/-- A host that awaits the end of every running command still does so one step later. -/
theorem awaitsAfter_of_busy {s t : State} {awaiting : Bool} (hp : phaseWf s = true)
    (hb : statusBusy s.status = true → awaiting = true) (h : step s = .next t) (ht : statusBusy t.status = true) :
    awaitsAfter awaiting s t = true := by
  have idle : statusBusy s.status = false → ∀ hs, codecStep { s with host := hs } = .next { s with host := hs } :=
    fun hs _ => codecStep_idle (phaseWf_idle hp hs)
  have stays : ∀ hs, codecStep { s with host := hs } = .next t → awaiting = true := by
    intro hs hc
    cases hsb : statusBusy s.status with
    | true => exact hb hsb
    | false =>
      rw [idle hsb hs] at hc
      cases hc
      simp [hsb] at ht
  rcases step_next h with ⟨he, hc⟩ | ⟨rest, he, hc⟩ | ⟨rest, he, hs, hc⟩ | ⟨rest, he, hs, rfl⟩ | ⟨p, v, rest, he, hc⟩ |
    ⟨p, rest, he, hc⟩ | ⟨rest, he, rfl⟩
  · simpa [awaitsAfter, he] using stays s.host hc
  · simpa [awaitsAfter, he] using stays rest hc
  · simp [awaitsAfter, he, hs, hb hs]
  · simp [hs] at ht
  · obtain ⟨-, rfl⟩ := hostWrite_next hc
    cases hsb : statusBusy s.status with
    | true => cases p <;> simp [awaitsAfter, he, hb hsb]
    | false => cases p <;> simp_all [awaitsAfter, writePort, modifyIse] <;> (split at ht <;> simp_all)
  · obtain ⟨-, ⟨hs, v, hv, rfl⟩ | ⟨-, v, hv, rfl⟩⟩ := hostRead_next hc
    · cases p <;> simp [awaitsAfter, he, hb hs]
      exact .inl (by have := busyValue_status_odd hv; omega)
    · have hs : statusBusy s.status = true := ht
      cases p <;> simp [awaitsAfter, he, hb hs]
      refine .inl ?_
      simp only [portValue, Option.some.injEq] at hv
      subst hv
      simpa [statusBusy, BitVec.getLsbD, Nat.testBit_zero] using hs
  · simp at ht

/-- A host that follows the protocol loses no write. -/
theorem follows_write {s t : State} {awaiting : Bool} {p : Port} {v : Nat} {rest : List HostAct}
    (he : s.host = .write p v :: rest) (hf : actFollows awaiting s = true) (h : step s = .next t) :
    t = writePort p v { s with host := rest } := by
  have hs : statusBusy s.status = false := by simpa [actFollows, he] using hf
  have hc : hostWrite p v { s with host := rest } = .next t := by simpa [step, he] using h
  obtain ⟨-, rfl⟩ := hostWrite_next hc
  simp [hs]

/-- A host that follows the protocol reads outputs only when they hold their values. -/
theorem follows_read {s t : State} {awaiting : Bool} {p : Port} {rest : List HostAct}
    (hb : statusBusy s.status = true → awaiting = true) (he : s.host = .read p :: rest) (ho : outputPort p = true)
    (hf : actFollows awaiting s = true) (h : step s = .next t) :
    ∃ v, portValue p s = some v ∧ t = { s with host := rest, readData := v } := by
  have ha : awaiting = false := by simpa [actFollows, he, ho] using hf
  have hc : hostRead p { s with host := rest } = .next t := by simpa [step, he] using h
  obtain ⟨-, ⟨hs, -⟩ | ⟨-, v, hv, rfl⟩⟩ := hostRead_next hc
  · exact absurd (hb hs) (by simp [ha])
  · exact ⟨v, by cases p <;> exact hv, rfl⟩

end Sys2Proof.Machine
end

