-- ==== Sys2Proof/Machine/TestVectors.lean ====
section
/-! DEFINITION. The host's test-vector functions (`48_block_generator.md` R375 to R377): the sweeps and the random
blocks. The contents of the sweeps and of the random source are open constants of Config (log 13). -/

namespace Sys2Proof.Machine

/-- The state an answer holds, if it goes on. -/
def Result.nextOr (r : Result) (s : State) : State :=
  match r with
  | .next s' => s'
  | .fault _ => s
  | .refused _ => s

/-- The machine with the ISE inputs of a request set up: `GEN_DEFAULT` where one of them is "default", then the inputs
that are given (R375, R376; log 23). -/
def withRequestInputs (w e : Option IseInput) (s : State) : State :=
  let d := if w = none ∨ e = none then Result.nextOr (execGenDefault s) s else s
  { d with wIseIn := w.getD d.wIseIn, eIseIn := e.getD d.eIseIn }

/-- `BLK_OUT` after one encode request on a machine set up with a format: `ENC_VOID`, or `ENC_NORMAL` with its inputs
(R375, R376). R376 lets a model rely on every request being legal and calls an illegal one "a caller error"; what an
illegal one yields is the model's DESIGN CHOICE (log 24): each request runs on a machine just reset, so a refused one
yields the `BLK_OUT` of reset, sixteen zero bytes. -/
def requestBlock (fmt : Nat) (req : EncodeRequest) : Block :=
  let s := { State.reset with cfg := BitVec.ofNat 6 fmt }
  match req with
  | .void ve => (Result.nextOr (execEncVoid { s with veParams := ve }) s).blkOut
  | .normal nb w e => (Result.nextOr (execEncNormal (withRequestInputs w e { s with nbParams := nb })) s).blkOut

/-- The bytes of a list of encode requests, in order (R376). -/
def requestBytes (fmt : Nat) (reqs : List EncodeRequest) : List Byte :=
  reqs.flatMap (fun r => bytesOfBlock (requestBlock fmt r))

/-- `generateBlockCaseTestData(format, testCategory)` (R375, R376). -/
def generateBlockCaseTestData (fmt : Nat) (cat : TestCategory) : List Byte :=
  requestBytes fmt (Config.sweepTable fmt cat)

/-- `generateRandomBlocks(count, format, seed)` (R377); the seed is any integer (log 13). -/
def generateRandomBlocks (count fmt : Nat) (seed : Int) : List Byte :=
  (List.range count).flatMap (fun k => bytesOfBlock (Config.randomBlockSource seed k fmt))

end Sys2Proof.Machine
end

