-- ==== Sys2Proof/Tests/Slice0.lean ====
section
/-! SUPPORT. Small tests: the ill-formed terms that WellFormed refuses, one word of every row written out from the
encoding tables, single steps on the vectors of `95_test_vectors.md`, and for each statement with hypotheses a state and
operands that meet them. -/

set_option maxRecDepth 100000
set_option Elab.async false

namespace Sys2Proof.Tests

open Sys2Proof Sys2Proof.Machine

/-! ### Ill-formed terms are refused, one for each check -/

theorem test_illformed_layout0 :
    (
   [Instr.modeL0R1 false false 4 0 false, Instr.modeL0R1 false false 0 4 false, Instr.modeL0R2 false false 4 0 false,
    Instr.modeL0R2 false false 0 4 false, Instr.modeL0R3 false false 4 0 false, Instr.modeL0R3 false false 0 4 false] :
    List Instr).all
      (fun i => !i.wellFormed) = true := by decide

theorem test_illformed_layout1 :
    (
   [Instr.modeL1R1 false false 4 0 false, Instr.modeL1R1 false false 0 4 false, Instr.modeL1R2 false false 4 0 false,
    Instr.modeL1R2 false false 0 4 false, Instr.modeL1R3 false false 4 0 false, Instr.modeL1R3 false false 0 4 false] :
    List Instr).all
      (fun i => !i.wellFormed) = true := by decide

theorem test_illformed_layout2 :
    (
   [Instr.modeL2R1 false false 4 0 false, Instr.modeL2R1 false false 0 4 false, Instr.modeL2R2 false false 4 0 false,
    Instr.modeL2R2 false false 0 4 false, Instr.modeL2R3 false false 4 0 false, Instr.modeL2R3 false false 0 4 false] :
    List Instr).all
      (fun i => !i.wellFormed) = true := by decide

theorem test_illformed_layout3 :
    (
   [Instr.modeL3R1 false false 2 0 false, Instr.modeL3R1 false false 0 4 false, Instr.modeL3R2 false false 2 0 false,
    Instr.modeL3R2 false false 0 4 false, Instr.modeL3R3 false false 2 0 false, Instr.modeL3R3 false false 0 4 false] :
    List Instr).all
      (fun i => !i.wellFormed) = true := by decide

theorem test_illformed_layout4 :
    (
   [Instr.modeL4R1 false false 2 0 false, Instr.modeL4R1 false false 0 4 false, Instr.modeL4R2 false false 2 0 false,
    Instr.modeL4R2 false false 0 4 false, Instr.modeL4R3 false false 2 0 false, Instr.modeL4R3 false false 0 4 false] :
    List Instr).all
      (fun i => !i.wellFormed) = true := by decide

theorem test_illformed_layout5 :
    (
   [Instr.modeL5R1 false false 4 false, Instr.modeL5R2 false false 4 false, Instr.modeL5R3 false false 4 false] :
    List Instr).all
      (fun i => !i.wellFormed) = true := by decide

theorem test_illformed_layout6 :
    (
   [Instr.modeL6R1 false false 4 false, Instr.modeL6R2 false false 4 false, Instr.modeL6R3 false false 4 false] :
    List Instr).all
      (fun i => !i.wellFormed) = true := by decide

theorem test_illformed_layout9 :
    (
   [Instr.modeL9R1 4 0 false, Instr.modeL9R1 0 4 false, Instr.modeL9R2 4 0 false, Instr.modeL9R2 0 4 false,
    Instr.modeL9R3 4 0 false, Instr.modeL9R3 0 4 false] :
    List Instr).all
      (fun i => !i.wellFormed) = true := by decide

/-! ### One word of every row, its bits in the order of the tables (R72, R74, R76, R77, R90), bit 0 on the right -/

theorem test_decode_layout0 :
    decodeBlockMode 0b10100110001 = .modeL0R1 true false 2 1 true
    ∧ decodeBlockMode 0b01011000010 = .modeL0R2 false true 1 2 false
    ∧ decodeBlockMode 0b11111110011 = .modeL0R3 true true 3 3 true := by decide

theorem test_decode_layout1 :
    decodeBlockMode 0b10100110101 = .modeL1R1 true false 2 1 true
    ∧ decodeBlockMode 0b01011000110 = .modeL1R2 false true 1 2 false
    ∧ decodeBlockMode 0b11111110111 = .modeL1R3 true true 3 3 true := by decide

theorem test_decode_layout2 :
    decodeBlockMode 0b10100111001 = .modeL2R1 true false 2 1 true
    ∧ decodeBlockMode 0b01011001010 = .modeL2R2 false true 1 2 false
    ∧ decodeBlockMode 0b11111111011 = .modeL2R3 true true 3 3 true := by decide

theorem test_decode_layout3 :
    decodeBlockMode 0b10000111101 = .modeL3R1 true false 0 1 true
    ∧ decodeBlockMode 0b01011001110 = .modeL3R2 false true 1 2 false
    ∧ decodeBlockMode 0b11011111111 = .modeL3R3 true true 1 3 true := by decide

theorem test_decode_layout4 :
    decodeBlockMode 0b10100111101 = .modeL4R1 true false 0 1 true
    ∧ decodeBlockMode 0b01111001110 = .modeL4R2 false true 1 2 false
    ∧ decodeBlockMode 0b11111111111 = .modeL4R3 true true 1 3 true := by decide

theorem test_decode_layout5 :
    decodeBlockMode 0b10000110100 = .modeL5R1 true false 1 true
    ∧ decodeBlockMode 0b01001001000 = .modeL5R2 false true 2 false
    ∧ decodeBlockMode 0b11001111100 = .modeL5R3 true true 3 true := by decide

theorem test_decode_layout6 :
    decodeBlockMode 0b10010110100 = .modeL6R1 true false 1 true
    ∧ decodeBlockMode 0b01011001000 = .modeL6R2 false true 2 false
    ∧ decodeBlockMode 0b11011111100 = .modeL6R3 true true 3 true := by decide

theorem test_decode_layout7 :
    decodeBlockMode 0b10110010100 = .modeL7R1 true false true
    ∧ decodeBlockMode 0b01110001000 = .modeL7R2 false true false
    ∧ decodeBlockMode 0b11110011100 = .modeL7R3 true true true := by decide

theorem test_decode_layout8 :
    decodeBlockMode 0b10110110100 = .modeL8R1 true false true
    ∧ decodeBlockMode 0b01110101000 = .modeL8R2 false true false
    ∧ decodeBlockMode 0b11110111100 = .modeL8R3 true true true := by decide

theorem test_decode_layout9 :
    decodeBlockMode 0b10100110100 = .modeL9R1 2 1 true
    ∧ decodeBlockMode 0b01101001000 = .modeL9R2 1 2 false
    ∧ decodeBlockMode 0b11101111100 = .modeL9R3 3 3 true := by decide

theorem test_decode_reserved :
    decodeBlockMode 0b10101010000 = .reservedLow4Zero 0b1010101
    ∧ decodeBlockMode 0b10111010100 = .reserved111_01 0b10 0b01
    ∧ decodeBlockMode 0b01111111000 = .reserved111_10 0b01 0b11
    ∧ decodeBlockMode 0b10111001100 = .reserved111_11_00 0b10
    ∧ decodeBlockMode 0b01111011100 = .reserved111_11_01 0b01
    ∧ decodeBlockMode 0b11111101100 = .reserved111_11_10 0b11 := by decide

theorem test_decode_void :
    decodeBlockMode 0x0000FFFF80001234FFFFFFFFFFFFFDFC
        = .voidExtent false 3 0x1FFF 0x1FFF 0x1FFF 0x1FFF 0x1234 0x8000 0xFFFF 0
    ∧ decodeBlockMode (0x1FC + 2 ^ 9 + 2 ^ 10 + 5 * 2 ^ 12 + 6 * 2 ^ 25 + 7 * 2 ^ 38 + 8 * 2 ^ 51 + 9 * 2 ^ 64 + 10 * 2 ^ 80
          + 11 * 2 ^ 96 + 12 * 2 ^ 112) = .voidExtent true 1 5 6 7 8 9 10 11 12 := by decide

theorem test_decode_single_0 :
    decodeEndpoint 0b10100000000001000010 = .cem0LdrLumDirect 5
    ∧ decodeEndpoint 0b10100010000001000010 = .cem1LdrLumBaseOffset 5
    ∧ decodeEndpoint 0b10100100000001000010 = .cem2HdrLumLarge 5
    ∧ decodeEndpoint 0b10100110000001000010 = .cem3HdrLumSmall 5
    ∧ decodeEndpoint 0b10101000000001000010 = .cem4LdrLumaDirect 5
    ∧ decodeEndpoint 0b10101010000001000010 = .cem5LdrLumaBaseOffset 5
    ∧ decodeEndpoint 0b10101100000001000010 = .cem6LdrRgbBaseScale 5
    ∧ decodeEndpoint 0b10101110000001000010 = .cem7HdrRgbBaseScale 5 := by decide

theorem test_decode_single_8 :
    decodeEndpoint 0b10110000000001000010 = .cem8LdrRgbDirect 5
    ∧ decodeEndpoint 0b10110010000001000010 = .cem9LdrRgbBaseOffset 5
    ∧ decodeEndpoint 0b10110100000001000010 = .cem10LdrRgbBaseScale2a 5
    ∧ decodeEndpoint 0b10110110000001000010 = .cem11HdrRgbDirect 5
    ∧ decodeEndpoint 0b10111000000001000010 = .cem12LdrRgbaDirect 5
    ∧ decodeEndpoint 0b10111010000001000010 = .cem13LdrRgbaBaseOffset 5
    ∧ decodeEndpoint 0b10111100000001000010 = .cem14HdrRgbLdrAlpha 5
    ∧ decodeEndpoint 0b10111110000001000010 = .cem15HdrRgbHdrAlpha 5 := by decide

theorem test_decode_shared2_0 :
    decodeEndpoint 0b10100000010000001010100001000010 = .p2SharedCem0LdrLumDirect 517 5
    ∧ decodeEndpoint 0b10100010010000001010100001000010 = .p2SharedCem1LdrLumBaseOffset 517 5
    ∧ decodeEndpoint 0b10100100010000001010100001000010 = .p2SharedCem2HdrLumLarge 517 5
    ∧ decodeEndpoint 0b10100110010000001010100001000010 = .p2SharedCem3HdrLumSmall 517 5
    ∧ decodeEndpoint 0b10101000010000001010100001000010 = .p2SharedCem4LdrLumaDirect 517 5
    ∧ decodeEndpoint 0b10101010010000001010100001000010 = .p2SharedCem5LdrLumaBaseOffset 517 5
    ∧ decodeEndpoint 0b10101100010000001010100001000010 = .p2SharedCem6LdrRgbBaseScale 517 5
    ∧ decodeEndpoint 0b10101110010000001010100001000010 = .p2SharedCem7HdrRgbBaseScale 517 5 := by decide

theorem test_decode_shared2_8 :
    decodeEndpoint 0b10110000010000001010100001000010 = .p2SharedCem8LdrRgbDirect 517 5
    ∧ decodeEndpoint 0b10110010010000001010100001000010 = .p2SharedCem9LdrRgbBaseOffset 517 5
    ∧ decodeEndpoint 0b10110100010000001010100001000010 = .p2SharedCem10LdrRgbBaseScale2a 517 5
    ∧ decodeEndpoint 0b10110110010000001010100001000010 = .p2SharedCem11HdrRgbDirect 517 5
    ∧ decodeEndpoint 0b10111000010000001010100001000010 = .p2SharedCem12LdrRgbaDirect 517 5
    ∧ decodeEndpoint 0b10111010010000001010100001000010 = .p2SharedCem13LdrRgbaBaseOffset 517 5
    ∧ decodeEndpoint 0b10111100010000001010100001000010 = .p2SharedCem14HdrRgbLdrAlpha 517 5
    ∧ decodeEndpoint 0b10111110010000001010100001000010 = .p2SharedCem15HdrRgbHdrAlpha 517 5 := by decide

theorem test_decode_shared3_0 :
    decodeEndpoint 0b10100000010000001011000001000010 = .p3SharedCem0LdrLumDirect 517 5
    ∧ decodeEndpoint 0b10100010010000001011000001000010 = .p3SharedCem1LdrLumBaseOffset 517 5
    ∧ decodeEndpoint 0b10100100010000001011000001000010 = .p3SharedCem2HdrLumLarge 517 5
    ∧ decodeEndpoint 0b10100110010000001011000001000010 = .p3SharedCem3HdrLumSmall 517 5
    ∧ decodeEndpoint 0b10101000010000001011000001000010 = .p3SharedCem4LdrLumaDirect 517 5
    ∧ decodeEndpoint 0b10101010010000001011000001000010 = .p3SharedCem5LdrLumaBaseOffset 517 5
    ∧ decodeEndpoint 0b10101100010000001011000001000010 = .p3SharedCem6LdrRgbBaseScale 517 5
    ∧ decodeEndpoint 0b10101110010000001011000001000010 = .p3SharedCem7HdrRgbBaseScale 517 5 := by decide

theorem test_decode_shared3_8 :
    decodeEndpoint 0b10110000010000001011000001000010 = .p3SharedCem8LdrRgbDirect 517 5
    ∧ decodeEndpoint 0b10110010010000001011000001000010 = .p3SharedCem9LdrRgbBaseOffset 517 5
    ∧ decodeEndpoint 0b10110100010000001011000001000010 = .p3SharedCem10LdrRgbBaseScale2a 517 5
    ∧ decodeEndpoint 0b10110110010000001011000001000010 = .p3SharedCem11HdrRgbDirect 517 5
    ∧ decodeEndpoint 0b10111000010000001011000001000010 = .p3SharedCem12LdrRgbaDirect 517 5
    ∧ decodeEndpoint 0b10111010010000001011000001000010 = .p3SharedCem13LdrRgbaBaseOffset 517 5
    ∧ decodeEndpoint 0b10111100010000001011000001000010 = .p3SharedCem14HdrRgbLdrAlpha 517 5
    ∧ decodeEndpoint 0b10111110010000001011000001000010 = .p3SharedCem15HdrRgbHdrAlpha 517 5 := by decide

theorem test_decode_shared4_0 :
    decodeEndpoint 0b10100000010000001011100001000010 = .p4SharedCem0LdrLumDirect 517 5
    ∧ decodeEndpoint 0b10100010010000001011100001000010 = .p4SharedCem1LdrLumBaseOffset 517 5
    ∧ decodeEndpoint 0b10100100010000001011100001000010 = .p4SharedCem2HdrLumLarge 517 5
    ∧ decodeEndpoint 0b10100110010000001011100001000010 = .p4SharedCem3HdrLumSmall 517 5
    ∧ decodeEndpoint 0b10101000010000001011100001000010 = .p4SharedCem4LdrLumaDirect 517 5
    ∧ decodeEndpoint 0b10101010010000001011100001000010 = .p4SharedCem5LdrLumaBaseOffset 517 5
    ∧ decodeEndpoint 0b10101100010000001011100001000010 = .p4SharedCem6LdrRgbBaseScale 517 5
    ∧ decodeEndpoint 0b10101110010000001011100001000010 = .p4SharedCem7HdrRgbBaseScale 517 5 := by decide

theorem test_decode_shared4_8 :
    decodeEndpoint 0b10110000010000001011100001000010 = .p4SharedCem8LdrRgbDirect 517 5
    ∧ decodeEndpoint 0b10110010010000001011100001000010 = .p4SharedCem9LdrRgbBaseOffset 517 5
    ∧ decodeEndpoint 0b10110100010000001011100001000010 = .p4SharedCem10LdrRgbBaseScale2a 517 5
    ∧ decodeEndpoint 0b10110110010000001011100001000010 = .p4SharedCem11HdrRgbDirect 517 5
    ∧ decodeEndpoint 0b10111000010000001011100001000010 = .p4SharedCem12LdrRgbaDirect 517 5
    ∧ decodeEndpoint 0b10111010010000001011100001000010 = .p4SharedCem13LdrRgbaBaseOffset 517 5
    ∧ decodeEndpoint 0b10111100010000001011100001000010 = .p4SharedCem14HdrRgbLdrAlpha 517 5
    ∧ decodeEndpoint 0b10111110010000001011100001000010 = .p4SharedCem15HdrRgbHdrAlpha 517 5 := by decide

theorem test_decode_independent :
    decodeEndpoint 0b10110010110000001010100001000010 = .p2IndepSel1 517 9 5
    ∧ decodeEndpoint 0b10110011010000001010100001000010 = .p2IndepSel2 517 9 5
    ∧ decodeEndpoint 0b10110011110000001010100001000010 = .p2IndepSel3 517 9 5
    ∧ decodeEndpoint 0b10110010110000001011000001000010 = .p3IndepSel1 517 9 5
    ∧ decodeEndpoint 0b10110011010000001011000001000010 = .p3IndepSel2 517 9 5
    ∧ decodeEndpoint 0b10110011110000001011000001000010 = .p3IndepSel3 517 9 5
    ∧ decodeEndpoint 0b10110010110000001011100001000010 = .p4IndepSel1 517 9 5
    ∧ decodeEndpoint 0b10110011010000001011100001000010 = .p4IndepSel2 517 9 5
    ∧ decodeEndpoint 0b10110011110000001011100001000010 = .p4IndepSel3 517 9 5 := by decide

theorem test_decode_commands :
    [0, 1, 2, 3, 4, 5, 6, 7].map decodeCommand
      = [.nop, .decode, .isvalid, .encVoid, .encNormal, .genDefault, .reserved6, .reserved7] := by decide

theorem test_decode_refuses :
    decode .command [8] = .error .noSuchCommand ∧ decode .command [] = .error .wrongLength
    ∧ decode .blockMode [0x42] = .error .wrongLength := by decide

/-! ### Single steps on vectors of `95_test_vectors.md` -/

/-- The machine after reset with a configuration. -/
def withCfg (cfg : BitVec 6) : State := { State.reset with cfg := cfg }

/-- The machine in a decode of a block, at its partition and CEM fields. -/
def atEndpoint (cfg : BitVec 6) (blk : Block) : State :=
  { decodeAt .endpoint blk (withCfg cfg) with bm := parseBlockMode (getBits blk.toNat 0 10) }

/-- The machine with the parameters of a normal block, in a command. -/
def withParams (cfg : BitVec 6) (nb : BitVec 45) : State := { withCfg cfg with nbParams := nb }

/-- A part of the state an answer holds. -/
def after {α : Type} (f : State → α) (r : Result) : Option α :=
  match r with
  | .next t => some (f t)
  | .fault _ => none
  | .refused _ => none

/-- Bytes of `TX`. -/
def txBytes (addr n : Nat) (s : State) : List (Option Byte) := (List.range n).map (fun k => s.tx.read (addr + k))

/-- `STATUS` and some bytes of `TX`. -/
def statusAndTx (addr n : Nat) (s : State) : BitVec 8 × List (Option Byte) := (s.status, txBytes addr n s)


/-- Program step: NOP from reset. -/
theorem test_nop :
    after (·.status) (exec .nop State.reset)
      = some 0x02 := by decide +kernel

/-- R408: the cause is 12 and FAULT is set. -/
theorem test_reserved6 :
    after (·.status) (exec .reserved6 State.reset)
      = some 0xCE := by decide +kernel

/-- The same. -/
theorem test_reserved7 :
    after (·.status) (exec .reserved7 State.reset)
      = some 0xCE := by decide +kernel

/-- R408: FMT 14 is refused and leaves no decode behind. -/
theorem test_decode_refused :
    after (fun t => (t.status, t.phase)) (exec .decode (withCfg 14))
      = some (0xCE, .idle) := by decide +kernel

/-- R340: ISVALID latches BLK_IN. -/
theorem test_isvalid_starts :
    after (fun t => (t.cmd, t.phase, t.blk)) (exec .isvalid { withCfg 0 with blkIn := 7 })
      = some (2, .blockMode, 7) := by decide +kernel

/-- Section 2.9, first row. -/
theorem test_enc_void :
    after (·.blkOut) (exec .encVoid { State.reset with veParams := 0x00001FFFF00002468 })
      = some 0x0000FFFF80001234FFFFFFFFFFFFFDFC := by decide +kernel

/-- Section 2.9: an infinity in an HDR void-extent block. -/
theorem test_enc_void_refused :
    after (fun t => (t.status, t.blkOut)) (exec .encVoid { State.reset with veParams := 1 + 2 * 0x7C00, blkOut := 9 })
      = some (0xDE, 9) := by decide +kernel

/-- E1: the default gradients. -/
theorem test_gen_default :
    after (fun t => ((plainValues t.wIseIn).take 17, (plainValues t.eIseIn).take 7)) (exec .genDefault (withParams 0 0x000100000A44))
      = some ([0, 0, 0, 1, 1, 1, 1, 1, 2, 2, 2, 2, 2, 3, 3, 3, 0], [0, 51, 102, 153, 204, 255, 0]) := by decide +kernel

/-- The ISE inputs of E5. -/
def e5Inputs : State :=
  { withParams 0 0x0A821FFB0143 with
    wIseIn := fillPlain IseInput.zero 12 (fun i => [0, 0, 1, 1, 1, 2, 2, 3, 3, 3, 4, 4].getD i 0),
    eIseIn := fillPlain IseInput.zero 12 (fun i => [0, 3, 6, 8, 11, 14, 17, 20, 23, 25, 28, 31].getD i 0) }

/-- E5: four partitions with their own CEMs. -/
theorem test_enc_normal :
    after (·.blkOut) (exec .encNormal e5Inputs)
      = some 0x05257FE441FE66F48B96830C18FFF9DE := by decide +kernel

/-- L7: a weight above the range of Quint 0 is refused. -/
theorem test_enc_normal_refused :
    after (·.status) (exec .encNormal { e5Inputs with wIseIn := fillPlain e5Inputs.wIseIn 1 (fun _ => 5) })
      = some 0xDE := by decide +kernel

/-- P2: the high bytes on the sRGB path. -/
theorem test_void_extent :
    after (statusAndTx 60 5) (step (decodeAt .blockMode 0x0000FFFF80001234FFFFFFFFFFFFFDFC (withCfg 0x10)))
      = some (0x02, [some 0x12, some 0x80, some 0xFF, some 0x00, none]) := by decide +kernel

/-- `0x042` on a 4x4 footprint. -/
theorem test_mode_normal :
    after (fun t => (t.phase, t.bm)) (step (decodeAt .blockMode 0x02AA557F00000001FF9932CC66010042 (withCfg 0)))
      = some (.endpoint, plainGridMode) := by decide +kernel

/-- R308: a 6x6 grid on a 4x4 footprint, cause 7. -/
theorem test_mode_grid_size :
    after (·.status) (step (decodeAt .blockMode 0x108 (withCfg 0)))
      = some 0x76 := by decide +kernel

/-- R162: mode 0, cause 1, magenta. -/
theorem test_mode_reserved :
    after (statusAndTx 0 4) (step (decodeAt .blockMode 0 (withCfg 0x10)))
      = some (0x16, [some 0xFF, some 0x00, some 0xFF, some 0xFF]) := by decide +kernel

/-- E1, sRGB path: texels 0, 3 and 15. -/
theorem test_cem8 :
    after (fun t => (t.status, txBytes 0 4 t, txBytes 12 4 t, txBytes 60 5 t)) (step (atEndpoint 0x10 0x02AA557F00000001FF9932CC66010042))
      = some (0x02, [some 0x00, some 0x66, some 0xCC, some 0xFF],
        [some 0x11, some 0x77, some 0xDD, some 0xFF], [some 0x33, some 0x99, some 0xFF, some 0xFF, none]) := by decide +kernel

/-- E2: Trit 1 values, blue contraction, texels 4 to 6. -/
theorem test_cem8_swapped :
    after (statusAndTx 16 12) (step (atEndpoint 0x17 0x001494A25293BDBD96B0BFD56F11010C))
      = some (0x02, [some 0x00, some 0x33, some 0x66, some 0xFF, some 0x8F, some 0x89, some 0x83, some 0xFF, some 0xFF, some 0xCC, some 0x99, some 0xFF]) := by decide +kernel

/-- E3: two partitions and two planes, texels 0 and 2. -/
theorem test_p2_shared_dual :
    after (fun t => (t.status, txBytes 0 4 t, txBytes 8 4 t)) (step (atEndpoint 0x11 0x1E35713AA7389FED6C8DA4480C09AC13))
      = some (0x02, [some 0x00, some 0x0F, some 0x49, some 0xFF], [some 0x91, some 0xB5, some 0xDB, some 0xFF]) := by decide +kernel

/-- E4 in HDR mode: texel 0. -/
theorem test_cem15 :
    after (statusAndTx 0 16) (step (atEndpoint 0x20 0x06E494CB60C1FFB76D24DA924801E71F))
      = some (0x02, [some 0x00, some 0x00, some 0x00, some 0x00, some 0x00, some 0x00, some 0x8C, some 0x3C, some 0x00, some 0x00, some 0x38, some 0x3A, some 0x00, some 0x00, some 0x48, some 0x47]) := by decide +kernel

/-- E4 in LDR mode: cause 11, FAULT 0, magenta. -/
theorem test_cem15_in_ldr :
    after (statusAndTx 0 16) (step (atEndpoint 0 0x06E494CB60C1FFB76D24DA924801E71F))
      = some (0xB6, [some 0x00, some 0x00, some 0x80, some 0x3F, some 0x00, some 0x00, some 0x00, some 0x00, some 0x00, some 0x00, some 0x80, some 0x3F, some 0x00, some 0x00, some 0x80, some 0x3F]) := by decide +kernel

/-- E5: texels 0 and 8. -/
theorem test_p4_independent :
    after (fun t => (t.status, txBytes 0 4 t, txBytes 32 4 t)) (step (atEndpoint 0x10 0x05257FE441FE66F48B96830C18FFF9DE))
      = some (0x02, [some 0xDE, some 0xDE, some 0xDE, some 0xF3], [some 0x67, some 0x67, some 0x67, some 0x99]) := by decide +kernel

/-- Values of R260. -/
theorem test_partition_hash :
    [hash52 0x405, hash52 0x7FF, hash52 0xFFF]
      = [0x64F0AD5F, 0x94F75EB7, 0x85C559B5] := by decide +kernel

/-- Section 2.6: seed 5, two partitions, 4x4. -/
theorem test_partition_map :
    (texelCoords 4 4).map (fun t => partitionOf 5 t.1 t.2 0 2 (smallBlock 4 4))
      = [1, 1, 1, 0, 1, 1, 0, 0, 1, 0, 0, 0, 1, 0, 0, 0] := by decide +kernel

/-- Section 2.1: three reads of the reverse cursor. -/
theorem test_cursor_reverse :
    [0, 3, 8].map (fun k => Cursor.value 0x1032547698BADCFEEFCDAB8967452301 ⟨127, 12, false, k⟩ ([3, 0, 0, 5, 0, 0, 0, 0, 8].getD k 0))
      = [0, 1, 0xC] := by decide +kernel

/-- R106: a reverse cursor that ends at bit 0. -/
theorem test_cursor_last_bit :
    (Cursor.value 0x2C ⟨7, 8, false, 0⟩ 8, (Cursor.put 0 ⟨7, 8, false, 0⟩ 8 0x34).toNat)
      = (0x34, 0x2C) := by decide +kernel

/-- Section 2.2: Trit 1, elements 5,2,5,4,5,0,3. -/
theorem test_ise_trit :
    (decodeIse 0x31CF7 ⟨0, 19, true, 0⟩ ⟨.trit, 1⟩ 7).map (·.v)
      = [5, 2, 5, 4, 5, 0, 3] := by decide +kernel

/-- Section 2.2: Quint 2, elements 19,3,12,8,17. -/
theorem test_ise_quint :
    (decodeIse 0x269873 ⟨0, 22, true, 0⟩ ⟨.quint, 2⟩ 5).map (·.v)
      = [19, 3, 12, 8, 17] := by decide +kernel

/-! ### States and operands that meet the hypotheses of each statement, one for each clause -/

theorem test_meets_EncodeDecodeRoundTrip :
    (Instr.modeL0R1 true true 3 3 true).wellFormed = true ∧ (Instr.modeL4R3 true true 1 3 true).wellFormed = true := by
  decide

theorem test_meets_RowsDoNotOverlap :
    (0x042 : Block).toNat &&& (Instr.modeL0R2 false false 0 2 false).row.1 = (Instr.modeL0R2 false false 0 2 false).row.2
    ∧ (Instr.modeL0R2 false false 0 2 false).space = .blockMode
    ∧ (0x10042 : Block).toNat &&& (Instr.cem8LdrRgbDirect 0).row.1 = (Instr.cem8LdrRgbDirect 0).row.2
    ∧ (Instr.cem8LdrRgbDirect 0).space = .endpoint := by decide

/-- The machine just after a write of `CMD` = 1. -/
def started : State := startCommand 1 State.reset

theorem test_meets_StepRunsTheFetchedInstruction_command :
    fetchBytes started = some (.command, [1]) ∧ decode .command [1] = .ok .decode ∧ started.host = []
    ∧ ({ started with host := [.tick] } : State).host = .tick :: []
    ∧ ({ started with host := [.waitDone] } : State).host = .waitDone :: []
    ∧ statusBusy ({ started with host := [.waitDone] } : State).status = true := by decide

theorem test_meets_StepRunsTheFetchedInstruction_block :
    fetchBytes (decodeAt .blockMode 0x042 State.reset) = some (.blockMode, bytesOfBlock 0x042)
    ∧ decode .blockMode (bytesOfBlock 0x042) = .ok (.modeL0R2 false false 0 2 false)
    ∧ fetchBytes (decodeAt .endpoint 0x10042 State.reset) = some (.endpoint, bytesOfBlock 0x10042)
    ∧ decode .endpoint (bytesOfBlock 0x10042) = .ok (.cem8LdrRgbDirect 0) := by decide +kernel

theorem test_meets_BlockModeInverses :
    (parseBlockMode 2047).isError = false ∧ (parseBlockMode 2047).isVoidExtent = false
    ∧ writeBlockMode 4 4 ⟨.plainBit, 2⟩ false = some 0x042
    ∧ writeBlockMode 9 9 ⟨.plainBit, 1⟩ false = some 0x764
    ∧ iseRangeMax ⟨.plainBit, 3⟩ ∈ [1, 2, 3, 4, 5, 7, 9, 11, 15, 19, 23, 31] ∧ layoutOf 9 9 = some 9
    ∧ iseRangeMax ⟨.plainBit, 3⟩ ≤ 7 := by decide +kernel

theorem test_meets_ReservedRowsAreErrorBlocks :
    Instr.reserved111_11_10 0 ∈ [Instr.reservedLow4Zero 0, .reserved111_01 0 0, .reserved111_10 0 0,
      .reserved111_11_00 0, .reserved111_11_01 0, .reserved111_11_10 0] := by decide

/-- Every row of layouts 0 to 4 fits a 12x12 footprint with some operands. -/
theorem test_meets_GridRowsAccepted_layouts0to4 :
    ∀ row ∈ gridRowsBA,
      modeFits 0x0D (gridMode (row.1 1 (4 - row.2.1)).1 (row.1 1 (4 - row.2.1)).2 (2 * row.2.1 + 1) false false)
        = true := by decide +kernel

/-- So does every row of layouts 5 and 6. -/
theorem test_meets_GridRowsAccepted_layouts5and6 :
    ∀ row ∈ gridRowsA, modeFits 0x0D (gridMode (row.1 0).1 (row.1 0).2 (2 * row.2.1 + 1) false false) = true := by
  decide +kernel

/-- So does every row of layouts 7 and 8 that is not heavy, at the most bits allowed. -/
theorem test_meets_GridRowsAccepted_layouts7and8 :
    ∀ row ∈ gridRowsConst, modeFits 0x0D (gridMode row.1.1 row.1.2 (2 * row.2.1 + 1) false false) = true := by
  decide +kernel

/-- So does every row of layout 9. -/
theorem test_meets_GridRowsAccepted_layout9 :
    ∀ row ∈ gridRowsWide, modeFits 0x0D (gridMode (row.1 0 0).1 (row.1 0 0).2 (2 * row.2.1) false false) = true := by
  decide +kernel

/-- With both flags: two planes of 5x2 weights of Trit 2 on a 12x12 footprint. -/
theorem test_meets_GridRowsAccepted_flags : modeFits 0x0D (gridMode 5 2 3 true true) = true := by decide +kernel

theorem test_meets_HeavyGridRowsAreErrorBlocks : gridRowsHeavy.length = 4 := by decide

theorem test_meets_ModeChecksInOrder :
    64 < weightCount (gridMode 9 9 2 false false) ∧ weightCount (gridMode 8 8 2 false false) = 64
    ∧ weightBits (gridMode 2 2 2 false false) < 24 ∧ 96 < weightBits (gridMode 7 7 4 false false)
    ∧ blockW 0 < (gridMode 6 6 2 false false).gridW ∧ modeFits 0 (gridMode 4 4 4 false false) = true := by decide +kernel

/-- An HDR block in HDR mode with extents strictly ordered at both ends and the largest finite colours. -/
theorem test_meets_VoidExtentDecodes_hdr :
    (true = true → cfgHdrMode (withCfg 0x20).cfg = true)
    ∧ (((0 : BitVec 13) = 0x1FFF ∧ (1 : BitVec 13) = 0x1FFF ∧ (0x1FFE : BitVec 13) = 0x1FFF ∧ (0x1FFF : BitVec 13) = 0x1FFF)
      ∨ ((0 : BitVec 13).toNat < (1 : BitVec 13).toNat ∧ (0x1FFE : BitVec 13).toNat < (0x1FFF : BitVec 13).toNat))
    ∧ (true = true → ∀ c ∈ [(0x7BFF : BitVec 16), 0xFBFF, 0, 0x8000], getBits c.toNat 10 14 ≠ 31) :=
  ⟨fun _ => (by decide), .inr ⟨by decide, by decide⟩, fun _ => (by simp [getBits])⟩

/-- An LDR block with extents of all ones; an exponent field of 31 does not matter. -/
theorem test_meets_VoidExtentDecodes_ldr :
    (false = true → cfgHdrMode (withCfg 0).cfg = true)
    ∧ (((0x1FFF : BitVec 13) = 0x1FFF ∧ (0x1FFF : BitVec 13) = 0x1FFF ∧ (0x1FFF : BitVec 13) = 0x1FFF
        ∧ (0x1FFF : BitVec 13) = 0x1FFF)
      ∨ ((0x1FFF : BitVec 13).toNat < (0x1FFF : BitVec 13).toNat ∧ (0x1FFF : BitVec 13).toNat < (0x1FFF : BitVec 13).toNat))
    ∧ (false = true → ∀ c ∈ [(0x7C00 : BitVec 16), 0, 0, 0], getBits c.toNat 10 14 ≠ 31) :=
  ⟨fun h => absurd h (by decide), .inl ⟨rfl, rfl, rfl, rfl⟩, fun h => absurd h (by decide)⟩

theorem test_meets_VoidExtentErrors :
    cfgHdrMode 0 = false ∧ (5 : BitVec 13).toNat ≤ (5 : BitVec 13).toNat ∧ getBits 0x7C00 10 14 = 31 :=
  ⟨by decide, Nat.le_refl _, by decide⟩

/-- Whether the colour data fits, as a Boolean. -/
def fits (bm : BlockModeInfo) (n : Nat) (single : Bool) (ncev : Nat) : Bool :=
  decide ((ceilDiv (13 * ncev) 5 : Nat) ≤ colourBits n single bm.isDualPlane (weightBits bm))

theorem fits_iff (bm : BlockModeInfo) (n : Nat) (single : Bool) (ncev : Nat) :
    fits bm n single ncev = true ↔ colourFits bm n single ncev := by simp [fits, colourFits]

theorem test_meets_SinglePartitionRowsDecode :
    ∀ row ∈ singleRows, colourFits plainGridMode 1 true (cemNumValues row.1) := by
  simp only [← fits_iff]; decide +kernel

theorem test_meets_SharedCemRowsDecode :
    ∀ row ∈ sharedRows, ¬ (row.1 = 4 ∧ plainGridMode.isDualPlane = true)
      ∧ colourFits plainGridMode row.1 true (row.1 * cemNumValues row.2.1) := by
  simp only [← fits_iff]; decide +kernel

/-- With two planes as well, and with no bit to spare: 18 values in 47 bits. -/
theorem test_meets_SharedCemRowsDecode_tight :
    ¬ (3 = 4 ∧ (gridMode 5 5 2 true false).isDualPlane = true) ∧ colourFits (gridMode 5 5 2 true false) 3 true 18
    ∧ colourFits { gridMode 4 4 2 false false with gridW := 4, gridH := 13 } 3 true 18 := by
  simp only [← fits_iff]; decide +kernel

theorem test_meets_IndependentCemRowsDecode :
    weightBits plainGridMode ≤ 96 ∧ ∀ row ∈ independentRows,
      ¬ (row.1 = 4 ∧ plainGridMode.isDualPlane = true)
      ∧ (let cems := (List.range row.1).map
          (fun p => independentCem (independentBits row.1 row.2.1 5 0 0) row.1 row.2.1
            (extraPos row.1 false (weightBits plainGridMode)) p)
        cemsValueCount cems ≤ 18 ∧ colourFits plainGridMode row.1 false (cemsValueCount cems)) := by
  simp only [← fits_iff]; decide +kernel

theorem test_meets_CrowdedRowsAreErrorBlocks : crowdedRows.length = 12 := by decide

theorem test_meets_EndpointChecksInOrder :
    (blockValues (gridMode 4 2 2 true false) 0x1842).nparts = 4
    ∧ 18 < (blockValues plainGridMode (0x1842 + 8 * 2 ^ 25)).ncev
    ∧ (blockValues (gridMode 6 6 6 false false) (0x10842 + 12 * 2 ^ 25)).ncb
        < (ceilDiv (13 * (blockValues (gridMode 6 6 6 false false) (0x10842 + 12 * 2 ^ 25)).ncev) 5 : Nat) := by
  decide +kernel

theorem test_meets_EndpointRowsFollowTheBlock : weightBits plainGridMode ≤ 96 := by decide +kernel

/-- A texel in error, one of an LDR partition, and one of an HDR partition in HDR mode. -/
theorem test_meets_LdrModeDegradesHdrTexels :
    (cfgHdrMode 0x20 = true ∧ texelFails (normalValues plainGridMode 1 true [11] 0) 0x20 3 3 = false)
    ∧ texelFails (normalValues plainGridMode 1 true [11] 0) 0 3 3 = true
    ∧ texelFails (normalValues plainGridMode 1 true [8] 0) 0 3 3 = false := by decide +kernel

theorem test_meets_ReservedCommandsRefused : Instr.reserved7 ∈ [Instr.reserved6, .reserved7] := by decide

/-- Both clauses, at the last legal and the first illegal format. -/
theorem test_meets_DecodeCommandsStart :
    (cfgFmt (withCfg 0x1D).cfg < 14 ∧ ¬ (cfgSrgb (withCfg 0x1D).cfg = true ∧ cfgHdrMode (withCfg 0x1D).cfg = true))
    ∧ 14 ≤ cfgFmt (withCfg 0x0E).cfg
    ∧ (cfgSrgb (withCfg 0x30).cfg = true ∧ cfgHdrMode (withCfg 0x30).cfg = true) := by decide

theorem test_meets_DecodeCommandsFollowTheProcedure :
    ((1 : BitVec 3) = 1 ∨ (1 : BitVec 3) = 2) ∧ ((2 : BitVec 3) = 1 ∨ (2 : BitVec 3) = 2)
    ∧ cfgDecodeLegal (withCfg 0x2D).cfg = true := by decide

theorem test_meets_EncVoidBuildsTheBlock :
    (¬ (veIsHdr 0xF800 = true ∧ getBits (veR 0xF800) 10 14 = 31))
    ∧ (veIsHdr 0xF801 = true ∧ getBits (veR 0xF801) 10 14 = 31) := by decide +kernel

theorem test_meets_EncVoidDecodesBack :
    voidParamsBad 0x0F7FF780000027801 = false ∧ (veIsHdr 0x0F7FF780000027801 = true → cfgHdrMode 0x20 = true) := by
  decide +kernel

/-- The three clauses; the last with inputs in range and with inputs out of range. -/
theorem test_meets_EncodeCommandsCheckLegality :
    14 ≤ cfgFmt (withCfg 14).cfg ∧ (cfgFmt (withCfg 13).cfg < 14 ∧ legalWeightIse (withCfg 13).cfg 0 = none)
    ∧ legalWeightIse 0 0x0A821FFB0143 = some ⟨.quint, 0⟩
    ∧ inputsInRange (normalParams 0x0A821FFB0143) ⟨.quint, 0⟩ e5Inputs.wIseIn e5Inputs.eIseIn = true
    ∧ inputsInRange (normalParams 0x0A821FFB0143) ⟨.quint, 0⟩
        (fillPlain e5Inputs.wIseIn 1 (fun _ => 5)) e5Inputs.eIseIn = false := by decide +kernel

/-- Several partitions with their own CEMs (E5); two partitions and two planes (E3). -/
theorem test_meets_EncNormalFieldsReadBack :
    (legalWeightIse 0 0x0A821FFB0143 = some ⟨.quint, 0⟩ ∧ (normalParams 0x0A821FFB0143).n ≠ 1)
    ∧ (legalWeightIse 1 0x0000C26DAE24 = some ⟨.plainBit, 3⟩ ∧ nbDual 0x0000C26DAE24 = true) := by decide +kernel

theorem test_meets_EncNormalSequencesReadBack :
    legalWeightIse 0 0x0A821FFB0143 = some ⟨.quint, 0⟩
    ∧ inputsInRange (normalParams 0x0A821FFB0143) ⟨.quint, 0⟩ e5Inputs.wIseIn e5Inputs.eIseIn = true
    ∧ e5Inputs.wIseIn.form = .plain ∧ e5Inputs.eIseIn.form = .plain := by decide +kernel

/-- One plane (E1) and two planes (E3). -/
theorem test_meets_GenDefaultWritesTheGradients :
    (cfgFmt (withParams 0 0x000100000A44).cfg < 14
      ∧ legalWeightIse (withParams 0 0x000100000A44).cfg (withParams 0 0x000100000A44).nbParams = some ⟨.plainBit, 2⟩)
    ∧ (cfgFmt (withParams 1 0x0000C26DAE24).cfg < 14
      ∧ legalWeightIse (withParams 1 0x0000C26DAE24).cfg (withParams 1 0x0000C26DAE24).nbParams = some ⟨.plainBit, 3⟩
      ∧ nbDual 0x0000C26DAE24 = true) := by decide +kernel

theorem test_meets_GenDefaultMakesLegalInputs :
    cfgFmt (withParams 0 0x0A821FFB0143).cfg < 14
    ∧ legalWeightIse (withParams 0 0x0A821FFB0143).cfg (withParams 0 0x0A821FFB0143).nbParams = some ⟨.quint, 0⟩ := by
  decide +kernel

theorem test_meets_SetBitsChangesExactlyItsRange : 0 ≤ 127 ∧ 127 < 128 := by decide

/-- A forward cursor, and a reverse one whose range ends at bit 0. -/
theorem test_meets_CursorReadsItsStream :
    ((⟨17, 10, true, 8⟩ : Cursor).forward = false → (10 : Nat) ≤ 17 + 1)
    ∧ ((⟨7, 8, false, 0⟩ : Cursor).forward = false → (8 : Nat) ≤ 7 + 1) := by decide

theorem test_meets_CursorWritesReadBack :
    ((⟨0, 128, true, 0⟩ : Cursor).forward = true → 0 + 128 ≤ 128)
    ∧ ((⟨127, 128, false, 0⟩ : Cursor).forward = false → (128 : Nat) ≤ 127 + 1 ∧ (127 : Nat) ≤ 127) := by decide

/-- The weights of E5 on the reverse cursor of R364, and its colours on the forward one. -/
theorem test_meets_IsePlainRoundTrip :
    ((⟨.quint, 0⟩ : IseParams).numBits ≤ 8 ∧ 12 ≤ 64 ∧ e5Inputs.wIseIn.form = .plain
      ∧ iseInputInRange ⟨.quint, 0⟩ e5Inputs.wIseIn 12 = true ∧ iseRequiredBits ⟨.quint, 0⟩ 12 ≤ 28
      ∧ (28 : Nat) ≤ 127 + 1 ∧ (127 : Nat) ≤ 127)
    ∧ ((⟨.plainBit, 5⟩ : IseParams).numBits ≤ 8 ∧ e5Inputs.eIseIn.form = .plain
      ∧ iseInputInRange ⟨.plainBit, 5⟩ e5Inputs.eIseIn 12 = true ∧ iseRequiredBits ⟨.plainBit, 5⟩ 12 ≤ 99
      ∧ 29 + 99 ≤ 128) := by decide +kernel

/-- The least a block with 18 values may have, and its choice (section 2.2). -/
theorem test_meets_ColourParametersFit :
    ceilDiv (13 * 18) 5 ≤ 47 ∧ colourIseParams 47 18 = ⟨.trit, 1⟩
    ∧ (⟨.trit, 1⟩ : IseParams) ∈ colourIseList ∧ iseRequiredBits ⟨.trit, 1⟩ 18 ≤ 47 := by decide +kernel

theorem test_meets_EndpointChannelsInRange :
    15 < 16 ∧ (∀ x ∈ [255, 0, 255, 255, 255, 255, 255, 255], x ≤ 255) ∧ cemIsHdr 15 = true ∧ cemIsHdr 12 = false
    ∧ 7 ∈ [2, 3, 7, 11] := by decide

theorem test_meets_TexelWeightsInRange :
    (∀ x ∈ [0, 64, 33, 1], x ≤ 64) ∧ (texelWeight [0, 64, 33, 1, 2, 3, 4, 5] 4 4 2 2 true 3 3).plane1.isSome = true
    ∧ 13 < 14 ∧ 2 ≤ 12 ∧ 12 ≤ (footprint 13).1 ∧ 2 ≤ (footprint 13).2 ∧ 11 < (footprint 13).1 := by decide +kernel

theorem test_meets_FullGridIsIdentity : 13 < 14 ∧ 11 < (footprint 13).1 ∧ 11 < (footprint 13).2 := by decide

theorem test_meets_PartitionBelowCount : 2 ≤ 2 ∧ 2 ≤ 4 ∧ 4 ≤ 4 := by decide

/-- The largest finite binary16, the smallest subnormal, and the largest UNORM16 below one. -/
theorem test_meets_FloatConversionsAreExact :
    (0xFBFF < 65536 ∧ getBits 0xFBFF 10 14 ≠ 31) ∧ (1 < 65536 ∧ getBits 1 10 14 ≠ 31) ∧ 65534 < 65535 := by decide +kernel

theorem test_meets_NoInfinityInTexels : 64 ≤ 64 ∧ 4095 ≤ 4095 ∧ 255 ≤ 255 := by decide

theorem test_meets_WhoWritesWhat :
    exec .nop State.reset = .next (endCommand .none false State.reset) ∧ Instr.nop ≠ .encVoid ∧ Instr.nop ≠ .encNormal
    ∧ Instr.nop ≠ .genDefault ∧ Instr.nop.space = .command
    ∧ ({ decodeAt .blockMode 0 State.reset with cmd := 2 } : State).cmd = 2 :=
  ⟨rfl, by decide⟩

theorem test_meets_TexelsDoNotDependOnTx :
    exec .nop State.reset = .next (endCommand .none false State.reset)
    ∧ exec .nop { State.reset with tx := [(5, 7)] }
        = .next (endCommand .none false { State.reset with tx := [(5, 7)] }) :=
  ⟨rfl, rfl⟩

/-- Reset meets the invariant, and so does a machine with the CEM fields of a block before it. -/
theorem test_meets_StepKeepsTheInvariant :
    (State.reset.Inv ∧ step State.reset = .next State.reset)
    ∧ Memory.wf (atEndpoint 0x10 0x10042).tx = true ∧ statusWf (atEndpoint 0x10 0x10042).status = true
    ∧ causeWf (atEndpoint 0x10 0x10042).status = true ∧ phaseWf (atEndpoint 0x10 0x10042) = true
    ∧ innerWf (atEndpoint 0x10 0x10042) = true ∧ decodeWf (atEndpoint 0x10 0x10042) = true
    ∧ modeWf (atEndpoint 0x10 0x10042) = true :=
  ⟨⟨by unfold State.Inv; decide +kernel, rfl⟩, by decide +kernel⟩

theorem test_meets_ResetValues :
    ({ started with host := [.reset] } : State).host = .reset :: [] := by decide

theorem test_meets_FaultIsSticky :
    statusFault ({ State.reset with status := 0xCE } : State).status = true
    ∧ step { State.reset with status := 0xCE } = .next { State.reset with status := 0xCE }
    ∧ (∀ rest, ({ State.reset with status := 0xCE } : State).host ≠ .reset :: rest) :=
  ⟨by decide, rfl, fun _ h => by cases h⟩

/-- A started command meets the premises of `CommandsEnd`. -/
theorem test_meets_CommandsEnd : started.Inv ∧ started.host = [] ∧ statusBusy started.status = true := by
  unfold State.Inv; decide +kernel

theorem test_meets_IdleCodecDoesNothing :
    State.reset.phase = .idle ∧ State.reset.host = [] ∧ ({ State.reset with host := [.tick] } : State).host = .tick :: []
    ∧ ({ State.reset with host := [.waitDone] } : State).host = .waitDone :: []
    ∧ statusBusy ({ State.reset with host := [.waitDone] } : State).status = false := by decide

/-- A write to the last `TX` byte while a command runs; a write to a read-only register. -/
theorem test_meets_BusyWritesAreIgnored :
    ({ started with host := [.write (.tx 2303) 5] } : State).host = .write (.tx 2303) 5 :: []
    ∧ portFault (.tx 2303) = none ∧ statusBusy ({ started with host := [.write (.tx 2303) 5] } : State).status = true
    ∧ ({ State.reset with host := [.write .status 5] } : State).host = .write .status 5 :: []
    ∧ portFault .status = none ∧ portFault (.blkOutByte 15) = none := by decide

theorem test_meets_CommandWriteStarts :
    ({ State.reset with host := [.write .cmd 7] } : State).host = .write .cmd 7 :: []
    ∧ statusBusy ({ State.reset with host := [.write .cmd 7] } : State).status = false := by decide

/-- A read of a port with a free value, and one of a port that keeps its value. -/
theorem test_meets_BusyReads :
    ({ started with host := [.read (.tx 2303)] } : State).host = .read (.tx 2303) :: [] ∧ portFault (.tx 2303) = none
    ∧ ({ started with host := [.read .cfg] } : State).host = .read .cfg :: [] ∧ portFault .cfg = none
    ∧ portSteady .cfg = true ∧ statusBusy started.status = true := by decide

theorem test_meets_HostAccessWhileIdle :
    portSettable (.iseBits .weights 63 4) = true ∧ portFault (.iseBits .weights 63 4) = none
    ∧ statusBusy State.reset.status = false ∧ Port.iseBits .endpoints 63 4 ≠ .iseBits .weights 63 4
    ∧ portFault (.iseBits .endpoints 63 4) = none := by decide

/-- At the last address of `TX` and the first one above it. -/
theorem test_meets_HostReadWhileIdle :
    statusBusy State.reset.status = false ∧ (portFault .veParams = none ∧ portValue .veParams State.reset = some 0)
    ∧ (2303 < 2304 ∧ Memory.read State.reset.tx 2303 = none) ∧ 2304 ≤ 2304 := by decide

/-! ### The host interface -/

/-- The numbers of R21, and the first number outside the map (R60). -/
theorem test_register_numbers :
    [0, 1, 2, 3, 4, 5, 6, 7, 8, 9].map Register.ofNumber
      = [some .cmd, some .status, some .cfg, some .blkIn, some .blkOut, some .veParams, some .nbParams, some .wIseIn,
          some .eIseIn, none]
    ∧ portAt 8 (.bits 63 4) = some (.iseBits .endpoints 63 4) ∧ portAt 4 (.byte 15) = some (.blkOutByte 15) := by decide

/-- E1 as a request with both inputs default, and with the default weights given (section 2.9). -/
theorem test_request_default :
    requestBlock 0 (.normal 0x000100000A44 none none) = 0x02AA557F00000001FF9932CC66010042
    ∧ requestBlock 0 (.normal 0x000100000A44
        (some (fillPlain IseInput.zero 16 (fun i => [0, 0, 0, 1, 1, 1, 1, 1, 2, 2, 2, 2, 2, 3, 3, 3].getD i 0))) none)
      = 0x02AA557F00000001FF9932CC66010042 := by decide +kernel

/-- E3 comes back as it was written (section 2.9), with its `ccs` and its seed, and gives its `NB_PARAMS` again. -/
theorem test_disassemble_normal :
    (disassemble 1 0x1E35713AA7389FED6C8DA4480C09AC13).map DisasmBlock.written
        = some (.normal 4 2 ⟨.plainBit, 3⟩ true 2 2 77 [6] true
            (.plain [0, 7, 1, 6, 2, 5, 3, 4, 4, 3, 5, 2, 6, 1, 7, 0]) (.plain [0, 9, 18, 27, 36, 45, 54, 63]))
    ∧ packNbParams 4 2 ⟨.plainBit, 3⟩ true 2 2 77 [6] true = 0x0000C26DAE24 := by decide +kernel

/-- The void-extent block of section 2.9, first row; an HDR one in LDR mode and a reserved mode have none. -/
theorem test_disassemble_void :
    disassemble 0 0x0000FFFF80001234FFFFFFFFFFFFFDFC = some (.void false 0x1234 0x8000 0xFFFF 0)
    ∧ disassemble 0 0x7BFFBC0000013C00FFFFFFFFFFFFFFFC = none
    ∧ disassemble 0x20 0x7BFFBC0000013C00FFFFFFFFFFFFFFFC = some (.void true 0x3C00 1 0xBC00 0x7BFF)
    ∧ disassemble 0 0 = none := by decide +kernel

/-! ### The premise `Protocol` -/

/-- A host that sets up, starts `NOP`, waits and reads an output follows H1 to H3. -/
theorem test_protocol_followed :
    followsFor 7 false { State.reset with
      host := [.write .cfg 0x10, .write .cmd 0, .waitDone, .waitDone, .read (.blkOutByte 0)] } = true := by
  decide +kernel

/-- A write while the command runs breaks H2, and an output read before the end has been read breaks H3, even when the
command has already ended. -/
theorem test_protocol_broken :
    followsFor 7 false { State.reset with host := [.write .cmd 0, .write .cfg 1] } = false
    ∧ followsFor 7 false { State.reset with host := [.write .cmd 0, .tick, .read (.blkOutByte 0)] } = false := by
  decide +kernel

/-- A machine with nothing to do follows the protocol for ever. -/
theorem test_protocol_reset : State.reset.protocol := by
  have h : ∀ n, followsFor n false State.reset = true := by
    intro n
    induction n with
    | zero => rfl
    | succ n ih => exact ih
  exact h

end Sys2Proof.Tests
end

section
/-! What an instruction can make of a state, said once for all rows of the opcode table. -/

namespace Sys2Proof.Machine

/-- What an instruction can make of a state. A command ends with a cause and at most its own outputs written, or latches
the block of a decode; a block-mode row ends with texels or latches a mode that passed the checks of R306 to R308; a
partition and CEM row ends with texels. -/
inductive Effect (i : Instr) (s : State) : State → Prop where
  | ends (c : Cause) (f : Bool) (hi : i.space = .command) : Effect i s (endCommand c f s)
  | encodes (b : Block) (hi : i = .encVoid ∨ i = .encNormal) :
      Effect i s (endCommand .none false { s with blkOut := b })
  | fills (w e : IseInput) (hi : i = .genDefault) :
      Effect i s (endCommand .none false { s with wIseIn := w, eIseIn := e })
  | latchesBlock (c : BitVec 3) (hi : i.space = .command) (hc : c = 1 ∨ c = 2) (hl : cfgDecodeLegal s.cfg = true) :
      Effect i s (latchBlock c s)
  | latchesMode (m : BlockModeInfo) (hi : i.space = .blockMode) (he : m.isError = false) (hv : m.isVoidExtent = false)
      (hm : modeFits s.cfg m = true) : Effect i s (latchMode m s)
  | stores (ts : List Rgba) (c : Cause) (f : Bool) (hi : i.space ≠ .command) (hl : ts.length = texelCount s.cfg) :
      Effect i s (endCommand c f (storeTexels ts s))

/-- A result goes on, with an effect that the instruction can have. -/
def Result.HasEffect (r : Result) (i : Instr) (s : State) : Prop := ∃ t, r = .next t ∧ Effect i s t

section
variable {i : Instr} {s : State}

theorem refuse_hasEffect (c : Cause) (hi : i.space = .command) : (refuse c s).HasEffect i s :=
  ⟨_, refuse_eq c s, .ends c true hi⟩

theorem succeed_hasEffect (hi : i.space = .command) : (succeed s).HasEffect i s :=
  ⟨_, succeed_eq s, .ends .none false hi⟩

theorem finish_hasEffect {ts : List Rgba} (c : Cause) (hi : i.space ≠ .command) (hl : ts.length = texelCount s.cfg) :
    (finish ts c s).HasEffect i s := ⟨_, finish_eq ts c s, .stores ts c _ hi hl⟩

theorem errorBlock_hasEffect (c : Cause) (hi : i.space ≠ .command) : (errorBlock c s).HasEffect i s :=
  finish_hasEffect c hi List.length_replicate

theorem beginDecode_hasEffect {c : BitVec 3} (hc : c = 1 ∨ c = 2) (hi : i.space = .command) :
    (beginDecode c s).HasEffect i s := by
  obtain ⟨hl, h⟩ | ⟨-, h⟩ := beginDecode_cases c s
  · exact ⟨_, h, .latchesBlock c hi hc hl⟩
  · exact h ▸ refuse_hasEffect _ hi

theorem execEncVoid_hasEffect : (execEncVoid s).HasEffect .encVoid s := by
  unfold execEncVoid
  split
  · exact refuse_hasEffect _ rfl
  · exact ⟨_, rfl, .encodes _ (.inl rfl)⟩

theorem execEncNormal_hasEffect : (execEncNormal s).HasEffect .encNormal s := by
  unfold execEncNormal
  split
  · exact refuse_hasEffect _ rfl
  · split
    · exact refuse_hasEffect _ rfl
    · split
      · exact ⟨_, rfl, .encodes _ (.inr rfl)⟩
      · exact refuse_hasEffect _ rfl

theorem execGenDefault_hasEffect : (execGenDefault s).HasEffect .genDefault s := by
  unfold execGenDefault
  split
  · exact refuse_hasEffect _ rfl
  · split
    · exact refuse_hasEffect _ rfl
    · exact ⟨_, rfl, .fills _ _ rfl⟩

theorem execVoidExtent_hasEffect (d : Bool) (rsv : BitVec 2) (minS maxS minT maxT : BitVec 13)
    (cr cg cb ca : BitVec 16) (hi : i.space ≠ .command) :
    (execVoidExtent d rsv minS maxS minT maxT cr cg cb ca s).HasEffect i s := by
  unfold execVoidExtent
  split
  · exact errorBlock_hasEffect _ hi
  · split
    · exact errorBlock_hasEffect _ hi
    · split
      · exact errorBlock_hasEffect _ hi
      · exact finish_hasEffect _ hi List.length_replicate

theorem acceptMode_gridMode_hasEffect (w h r : Nat) (d p : Bool) (hi : i.space = .blockMode) :
    (acceptMode (gridMode w h r d p) s).HasEffect i s := by
  have hn : i.space ≠ .command := by simp [hi]
  obtain ⟨-, e⟩ | ⟨-, -, e⟩ | ⟨-, -, -, -, e⟩ | ⟨hc, h24, h96, hw, hh, e⟩ := acceptMode_cases (gridMode w h r d p) s
  · exact e ▸ errorBlock_hasEffect _ hn
  · exact e ▸ errorBlock_hasEffect _ hn
  · exact e ▸ errorBlock_hasEffect _ hn
  · exact ⟨_, e, .latchesMode _ hi rfl rfl (by simp [modeFits, hc, h24, h96, hw, hh])⟩

theorem assembleBlock_hasEffect (nv : NormalValues) (fs : List (List Nat → EndpointPair)) (blk : Nat)
    (hi : i.space = .endpoint) : (assembleBlock nv fs blk s).HasEffect i s := by
  have hn : i.space ≠ .command := by simp [hi]
  obtain ⟨c, -, e⟩ | ⟨-, -, -, e⟩ := assembleBlock_cases nv fs blk s
  · exact e ▸ errorBlock_hasEffect c hn
  · exact e ▸ finish_hasEffect _ hn (normalTexels_length nv fs blk s.bm s.cfg)

theorem singlePartition_hasEffect (cem : Nat) (formula : List Nat → EndpointPair) (data : BitVec 111)
    (hi : i.space = .endpoint) : (singlePartition cem formula data s).HasEffect i s :=
  assembleBlock_hasEffect _ _ _ hi

theorem sharedPartitions_hasEffect (n cem : Nat) (formula : List Nat → EndpointPair) (seed : BitVec 10)
    (data : BitVec 99) (hi : i.space = .endpoint) : (sharedPartitions n cem formula seed data s).HasEffect i s :=
  assembleBlock_hasEffect _ _ _ hi

theorem independentPartitions_hasEffect (n sel : Nat) (seed : BitVec 10) (str4 : BitVec 4) (data : BitVec 99)
    (hi : i.space = .endpoint) : (independentPartitions n sel seed str4 data s).HasEffect i s :=
  assembleBlock_hasEffect _ _ _ hi

end

/-- Everything an instruction can do, by its row; the last case is that of the 48 rows with a shared CEM. -/
theorem exec_hasEffect (i : Instr) (s : State) : Result.HasEffect (exec i s) i s := by
  unfold exec
  cases i with
  | nop => exact succeed_hasEffect rfl
  | decode => exact beginDecode_hasEffect (.inl rfl) rfl
  | isvalid => exact beginDecode_hasEffect (.inr rfl) rfl
  | encVoid => exact execEncVoid_hasEffect
  | encNormal => exact execEncNormal_hasEffect
  | genDefault => exact execGenDefault_hasEffect
  | reserved6 | reserved7 => exact refuse_hasEffect _ rfl
  | voidExtent => exact execVoidExtent_hasEffect _ _ _ _ _ _ _ _ _ _ Space.noConfusion
  | reservedLow4Zero | reserved111_01 | reserved111_10 | reserved111_11_00 | reserved111_11_01
  | reserved111_11_10 => exact errorBlock_hasEffect _ Space.noConfusion
  | modeL0R1 | modeL0R2 | modeL0R3 | modeL1R1 | modeL1R2 | modeL1R3 | modeL2R1 | modeL2R2 | modeL2R3 | modeL3R1
  | modeL3R2 | modeL3R3 | modeL4R1 | modeL4R2 | modeL4R3 | modeL5R1 | modeL5R2 | modeL5R3 | modeL6R1 | modeL6R2
  | modeL6R3 | modeL7R1 | modeL7R2 | modeL7R3 | modeL8R1 | modeL8R2 | modeL8R3 | modeL9R1 | modeL9R2 | modeL9R3 =>
    exact acceptMode_gridMode_hasEffect _ _ _ _ _ rfl
  | cem0LdrLumDirect | cem1LdrLumBaseOffset | cem2HdrLumLarge | cem3HdrLumSmall | cem4LdrLumaDirect
  | cem5LdrLumaBaseOffset | cem6LdrRgbBaseScale | cem7HdrRgbBaseScale | cem8LdrRgbDirect | cem9LdrRgbBaseOffset
  | cem10LdrRgbBaseScale2a | cem11HdrRgbDirect | cem12LdrRgbaDirect | cem13LdrRgbaBaseOffset
  | cem14HdrRgbLdrAlpha | cem15HdrRgbHdrAlpha => exact singlePartition_hasEffect _ _ _ rfl
  | p2IndepSel1 | p2IndepSel2 | p2IndepSel3 | p3IndepSel1 | p3IndepSel2 | p3IndepSel3 | p4IndepSel1 | p4IndepSel2
  | p4IndepSel3 => exact independentPartitions_hasEffect _ _ _ _ _ rfl
  | _ => exact sharedPartitions_hasEffect _ _ _ _ _ rfl

theorem exec_effect {i : Instr} {s t : State} (h : exec i s = .next t) : Effect i s t := by
  obtain ⟨u, hu, he⟩ := exec_hasEffect i s
  cases h.symm.trans hu
  exact he

end Sys2Proof.Machine
end

section
/-! What the effects of an instruction keep, and the invariant of the machine: O50, O51, O47. -/

namespace Sys2Proof.Machine

/-! ### What an effect keeps -/

section
variable {i : Instr} {s t : State}

/-- The inputs of the codec and the model's own fields are no instruction's to write (R43, R91). -/
theorem Effect.inputs (h : Effect i s t) :
    t.cfg = s.cfg ∧ t.blkIn = s.blkIn ∧ t.veParams = s.veParams ∧ t.nbParams = s.nbParams ∧ t.host = s.host
      ∧ t.readData = s.readData ∧ t.freeCount = s.freeCount := by
  cases h <;> simp

theorem Effect.blkOut (h : Effect i s t) (hv : i ≠ .encVoid) (hn : i ≠ .encNormal) : t.blkOut = s.blkOut := by
  cases h with
  | encodes b hi => exact absurd hi (by simp [hv, hn])
  | ends | fills | latchesBlock | latchesMode | stores => simp

theorem Effect.ise (h : Effect i s t) (hg : i ≠ .genDefault) : t.wIseIn = s.wIseIn ∧ t.eIseIn = s.eIseIn := by
  cases h with
  | fills w e hi => exact absurd hi hg
  | ends | encodes | latchesBlock | latchesMode | stores => simp

/-- Only a block's rows store texels, and not in `ISVALID` (R340). -/
theorem Effect.tx (h : Effect i s t) (hs : i.space = .command ∨ s.cmd = 2) : t.tx = s.tx := by
  cases h with
  | stores ts c f hi hl => simp [storeTexels, writesTx, hs.resolve_left hi]
  | ends | encodes | fills | latchesBlock | latchesMode => rfl

theorem keepsTxBeyond_storeTexels {ts : List Rgba} (hl : ts.length = texelCount s.cfg) :
    keepsTxBeyond s (storeTexels ts s) := by
  intro a ha
  rw [storeTexels_read, texelsBytes_length, hl, if_neg]
  exact fun h => absurd ha (Nat.not_le.mpr h.2)

theorem Effect.keepsTxBeyond (h : Effect i s t) : keepsTxBeyond s t := by
  cases h with
  | stores ts c f hi hl => exact keepsTxBeyond_storeTexels hl
  | ends | encodes | fills | latchesBlock | latchesMode => exact fun _ _ => rfl

theorem Effect.fault (h : Effect i s t) (hf : statusFault s.status = true) : statusFault t.status = true := by
  cases h <;> simp [hf]

end

/-! ### The invariant -/

theorem phaseWf_busy {s : State} (hw : phaseWf s = true) (hp : s.phase ≠ .idle) : statusBusy s.status = true := by
  simpa [phaseWf, bne_iff_ne.mpr hp] using hw

/-- A whole footprint of texels lies inside `TX`. -/
theorem storeTexels_tx_wf {ts : List Rgba} {s : State} (hw : s.tx.wf = true) (hl : ts.length = texelCount s.cfg) :
    (storeTexels ts s).tx.wf = true := by
  have h := finish_wf (finish_eq ts .none s) (hl ▸ texelCount_le s.cfg) hw
  rwa [endCommand_tx] at h

theorem causeWf_endStatus (c : Cause) (f : Bool) (st : BitVec 8) : causeWf (endStatus c f st) = true := by
  have hr : decide (c ≠ .none) = (c.code != 0) := by cases c <;> rfl
  simp only [causeWf, endStatus_cause, endStatus_result, c.code_le, hr, decide_true, beq_self_eq_true, Bool.and_self]

theorem endCommand_inv (c : Cause) (f : Bool) {s : State} (hw : s.tx.wf = true) : (endCommand c f s).Inv :=
  ⟨hw, by simp [statusWf], causeWf_endStatus c f s.status, by simp [phaseWf], by simp [innerWf], rfl, rfl⟩

/-- Between commands the invariant speaks of `TX`, `STATUS` and the values inside a command only. -/
theorem inv_of_idle {s t : State} (h : s.Inv) (hp : s.phase = .idle) (hw : t.tx.wf = true) (hst : t.status = s.status)
    (hphase : t.phase = s.phase) (hcmd : t.cmd = s.cmd) (hblk : t.blk = s.blk) (hbm : t.bm = s.bm) : t.Inv := by
  obtain ⟨-, hstatus, hcause, hbusy, hinner, -, -⟩ := h
  have hpt : t.phase = .idle := hphase.trans hp
  refine ⟨hw, hst ▸ hstatus, hst ▸ hcause, ?_, ?_, by simp [decodeWf, hpt], by simp [modeWf, hpt]⟩
  · simpa [phaseWf, hst, hphase] using hbusy
  · simpa [innerWf, hphase, hcmd, hblk, hbm] using hinner

theorem startCommand_inv (c : BitVec 3) {s : State} (h : s.Inv) : (startCommand c s).Inv := by
  obtain ⟨hw, -, hcause, -, -, -, -⟩ := h
  exact ⟨hw, by simp [statusWf], by simpa [causeWf] using hcause, by simp [phaseWf], by simp [innerWf], rfl, rfl⟩

theorem latchBlock_inv {c : BitVec 3} {s : State} (h : s.Inv) (hb : statusBusy s.status = true) (hc : c = 1 ∨ c = 2)
    (hl : cfgDecodeLegal s.cfg = true) : (latchBlock c s).Inv := by
  obtain ⟨hw, hstatus, hcause, -, -, -, -⟩ := h
  exact ⟨hw, hstatus, hcause, by simp [phaseWf, hb], by simp [innerWf], by simpa [decodeWf, hl] using hc, rfl⟩

theorem modeWf_latchMode (m : BlockModeInfo) (s : State) :
    modeWf (latchMode m s) = (!m.isError && !m.isVoidExtent && modeFits s.cfg m) := by
  simp only [modeWf, modeFits, latchMode_phase, Bool.and_assoc]
  rfl

theorem latchMode_inv {m : BlockModeInfo} {s : State} (h : s.Inv) (hp : s.phase = .blockMode ∨ s.phase = .endpoint)
    (he : m.isError = false) (hv : m.isVoidExtent = false) (hm : modeFits s.cfg m = true) : (latchMode m s).Inv := by
  obtain ⟨hw, hstatus, hcause, hbusy, -, hdecode, -⟩ := h
  have hne : s.phase ≠ .idle := by rcases hp with hp | hp <;> simp [hp]
  refine ⟨hw, hstatus, hcause, by simp [phaseWf, phaseWf_busy hbusy hne], by simp [innerWf], ?_,
    by simp [modeWf_latchMode, he, hv, hm]⟩
  obtain hp | hp := hp
  · simpa [decodeWf, hp] using hdecode
  · simpa [decodeWf, hp] using hdecode

/-- An instruction of a running command keeps the invariant, if a block mode comes only after the latch. -/
theorem Effect.inv {i : Instr} {s t : State} (h : Effect i s t) (hs : s.Inv) (hb : statusBusy s.status = true)
    (hm : i.space = .blockMode → s.phase = .blockMode ∨ s.phase = .endpoint) : t.Inv := by
  have hw : s.tx.wf = true := hs.1
  cases h with
  | ends c f => exact endCommand_inv c f hw
  | encodes b => exact endCommand_inv _ _ hw
  | fills w e => exact endCommand_inv _ _ hw
  | latchesBlock c hi hc hl => exact latchBlock_inv hs hb hc hl
  | latchesMode m hi he hv hfit => exact latchMode_inv hs (hm hi) he hv hfit
  | stores ts c f hi hl => exact endCommand_inv c f (storeTexels_tx_wf hw hl)

theorem decodeCommand_space : ∀ c : BitVec 3, (decodeCommand c).space = .command := by decide

/-- What is fetched belongs to a running command, and is a block mode only after the latch. -/
theorem fetch_some {i : Instr} {s : State} (h : fetch s = some i) :
    s.phase ≠ .idle ∧ (i.space = .blockMode → s.phase = .blockMode ∨ s.phase = .endpoint) := by
  rw [fetch_eq] at h
  cases hp : s.phase with
  | idle => simp [hp] at h
  | command =>
    have hi : decodeCommand s.cmd = i := by simpa [hp] using h
    simp [← hi, decodeCommand_space]
  | blockMode | endpoint => simp

theorem codecStep_inv {s t : State} (hs : s.Inv) (h : codecStep s = .next t) : t.Inv := by
  obtain ⟨-, hc⟩ | ⟨i, hf, hc⟩ := codecStep_cases s
  · cases hc.symm.trans h
    exact hs
  · obtain ⟨hp, hm⟩ := fetch_some hf
    obtain ⟨-, -, -, hphase, -, -, -⟩ := id hs
    exact (exec_effect (hc.symm.trans h)).inv hs (phaseWf_busy hphase hp) hm

theorem writePort_inv {p : Port} {v : Nat} {s : State} (hs : s.Inv) (hb : statusBusy s.status = false)
    (hf : portFault p = none) : (writePort p v s).Inv := by
  obtain ⟨hw, -, -, hphase, -, -, -⟩ := id hs
  have hp : s.phase = .idle := phaseWf_idle hphase hb
  cases p with
  | cmd => exact startCommand_inv _ hs
  | status | blkOutByte => exact hs
  | cfg | blkInByte | veParams | nbParams => exact inv_of_idle hs hp hw rfl rfl rfl rfl rfl
  | iseForm | isePlain | iseTq | iseBits => apply inv_of_idle hs hp <;> simp [writePort, hw]
  | tx addr =>
    have ha : addr < 2304 := by simpa [portFault] using hf
    exact inv_of_idle hs hp (Memory.wf_writeBytes hw (by simp; omega)) rfl rfl rfl rfl rfl

theorem hostWrite_inv {p : Port} {v : Nat} {s t : State} (hs : s.Inv) (h : hostWrite p v s = .next t) : t.Inv := by
  obtain ⟨hf, rfl⟩ := hostWrite_next h
  split
  · exact hs
  · exact writePort_inv hs (by simpa using ‹¬ statusBusy s.status = true›) hf

theorem hostRead_inv {p : Port} {s t : State} (hs : s.Inv) (h : hostRead p s = .next t) : t.Inv := by
  obtain ⟨-, ⟨-, v, -, rfl⟩ | ⟨-, v, -, rfl⟩⟩ := hostRead_next h
  · exact hs
  · exact hs

theorem reset_inv : State.reset.Inv := by
  unfold State.Inv
  decide

end Sys2Proof.Machine

open Sys2Proof.Machine

/-- Settles O50, by what a step can do: the codec's instruction, one access of the host, or the reset event. The host's
actions still to come are no part of the invariant. -/
theorem stepKeepsTheInvariant : Obligations.StepKeepsTheInvariant := by
  intro s t hs h
  have hrest (rest : List HostAct) : State.Inv { s with host := rest } := hs
  obtain ⟨-, hc⟩ | ⟨rest, -, hc⟩ | ⟨rest, -, -, hc⟩ | ⟨rest, -, -, rfl⟩ | ⟨p, v, rest, -, hc⟩ | ⟨p, rest, -, hc⟩ |
    ⟨rest, -, rfl⟩ := step_next h
  · exact codecStep_inv hs hc
  · exact codecStep_inv (hrest rest) hc
  · exact codecStep_inv hs hc
  · exact hrest rest
  · exact hostWrite_inv (hrest rest) hc
  · exact hostRead_inv (hrest rest) hc
  · exact reset_inv

/-- Settles O51, by evaluation. -/
theorem resetHasTheInvariant : Obligations.ResetHasTheInvariant := reset_inv

/-- Settles O47: each clause is a frame of the effect that the instruction has. -/
theorem whoWritesWhat : Obligations.WhoWritesWhat := by
  intro i s t h
  have he : Effect i s t := exec_effect h
  exact ⟨he.inputs, he.blkOut, he.ise, he.tx, he.keepsTxBeyond⟩
end

section
/-! The sticky flag, the host's reads, the start event and the reset event: O53, O58, O60, O57, O52. -/

namespace Sys2Proof.Machine

/-! ### `FAULT` -/

theorem codecStep_fault {s t : State} (hf : statusFault s.status = true) (h : codecStep s = .next t) :
    statusFault t.status = true := by
  obtain ⟨-, hc⟩ | ⟨i, -, hc⟩ := codecStep_cases s
  · cases hc.symm.trans h
    exact hf
  · exact (exec_effect (hc.symm.trans h)).fault hf

@[simp] theorem writePort_fault (p : Port) (v : Nat) (s : State) :
    statusFault (writePort p v s).status = statusFault s.status := by
  cases p <;> simp [writePort]

theorem hostWrite_fault {p : Port} {v : Nat} {s t : State} (hf : statusFault s.status = true)
    (h : hostWrite p v s = .next t) : statusFault t.status = true := by
  obtain ⟨-, rfl⟩ := hostWrite_next h
  split
  · exact hf
  · rwa [writePort_fault]

theorem hostRead_fault {p : Port} {s t : State} (hf : statusFault s.status = true)
    (h : hostRead p s = .next t) : statusFault t.status = true := by
  obtain ⟨-, ⟨-, v, -, rfl⟩ | ⟨-, v, -, rfl⟩⟩ := hostRead_next h
  · exact hf
  · exact hf

/-! ### Reads -/

theorem busyValue_lt {p : Port} {free v : Nat} (h : busyValue p free = some v) : v < 2 ^ portWidth p := by
  cases p with
  | cmd | cfg | blkInByte | veParams | nbParams => cases h
  | status | blkOutByte | iseForm | isePlain | iseTq | iseBits | tx =>
    cases h
    simp only [portWidth]
    omega

/-- A held value fits its port. -/
theorem portValue_lt {p : Port} {s : State} {v : Nat} (h : portValue p s = some v) : v < 2 ^ portWidth p := by
  cases p with
  | cmd => cases h; decide
  | status | cfg | blkInByte | blkOutByte | veParams | nbParams | isePlain | iseTq | iseBits =>
    cases h
    exact BitVec.isLt _
  | iseForm =>
    cases h
    split <;> simp [portWidth]
  | tx addr =>
    obtain ⟨b, -, rfl⟩ := Option.map_eq_some_iff.mp h
    exact b.isLt

/-- The ports without a free value while a command runs: `CMD` and the ones that keep their value (R453). -/
theorem busyValue_eq_none {p : Port} {free : Nat} : busyValue p free = none ↔ p = .cmd ∨ portSteady p = true := by
  cases p <;> simp [busyValue, portSteady]

theorem busyValue_status {free v : Nat} (h : busyValue .status free = some v) : v % 2 = 1 ∧ v / 2 % 2 = 0 := by
  cases h
  omega

/-- Only a byte of `TX` can be without a value. -/
theorem portValue_isSome {p : Port} (h : p = .cmd ∨ portSteady p = true) (s : State) : ∃ v, portValue p s = some v := by
  cases p <;> simp_all [portSteady, portValue]

theorem settledRead_of_value {p : Port} {s : State} {v : Nat} (h : portValue p s = some v) :
    settledRead p s = .next { s with readData := v } := by
  unfold settledRead
  split <;> simp_all

theorem hostRead_idle {p : Port} {s : State} (hf : portFault p = none) (hb : statusBusy s.status = false) :
    hostRead p s = settledRead p s := by
  simp [hostRead, hf, hb]

theorem hostRead_free {p : Port} {s : State} {v : Nat} (hf : portFault p = none) (hb : statusBusy s.status = true)
    (hv : busyValue p (Config.busyRead s.freeCount) = some v) :
    hostRead p s = .next { s with readData := v, freeCount := s.freeCount + 1 } := by
  simp [hostRead, hf, hb, hv]

theorem hostRead_held {p : Port} {s : State} (hf : portFault p = none)
    (hv : busyValue p (Config.busyRead s.freeCount) = none) : hostRead p s = settledRead p s := by
  simp [hostRead, hf, hv]

theorem portValue_host (p : Port) (s : State) (rest : List HostAct) :
    portValue p { s with host := rest } = portValue p s := by
  cases p <;> rfl

/-- A read while a command runs: a port with a free value returns that, `CMD` and the steady ports what they hold. -/
theorem hostRead_busy {p : Port} {s : State} (hf : portFault p = none) (hb : statusBusy s.status = true) :
    ∃ v f, hostRead p s = .next { s with readData := v, freeCount := f } ∧ v < 2 ^ portWidth p
      ∧ (p = .status → v % 2 = 1 ∧ v / 2 % 2 = 0) ∧ (p = .cmd → v = 0)
      ∧ (portSteady p = true → portValue p s = some v) := by
  cases hv : busyValue p (Config.busyRead s.freeCount) with
  | some v =>
    have hp : ¬ (p = .cmd ∨ portSteady p = true) := fun h => by simp [busyValue_eq_none.mpr h] at hv
    refine ⟨v, _, hostRead_free hf hb hv, busyValue_lt hv, ?_, fun h => absurd (.inl h) hp,
      fun h => absurd (.inr h) hp⟩
    rintro rfl
    exact busyValue_status hv
  | none =>
    have hp : p = .cmd ∨ portSteady p = true := busyValue_eq_none.mp hv
    obtain ⟨v, hval⟩ := portValue_isSome hp s
    refine ⟨v, _, (hostRead_held hf hv).trans (settledRead_of_value hval), portValue_lt hval, ?_, ?_, fun _ => hval⟩
    · rintro rfl
      simp [portSteady] at hp
    · rintro rfl
      exact (Option.some.inj hval).symm

end Sys2Proof.Machine

open Sys2Proof.Machine

/-- Settles O53, by what a step can do: the start event keeps `FAULT`, the end event keeps or raises it. -/
theorem faultIsSticky : Obligations.FaultIsSticky := by
  intro s t hf h hr
  obtain ⟨-, hc⟩ | ⟨rest, -, hc⟩ | ⟨rest, -, -, hc⟩ | ⟨rest, -, -, rfl⟩ | ⟨p, v, rest, -, hc⟩ | ⟨p, rest, -, hc⟩ |
    ⟨rest, he, -⟩ := step_next h
  · exact codecStep_fault hf hc
  · exact codecStep_fault (s := { s with host := rest }) hf hc
  · exact codecStep_fault hf hc
  · exact hf
  · exact hostWrite_fault (s := { s with host := rest }) hf hc
  · exact hostRead_fault (s := { s with host := rest }) hf hc
  · exact absurd he (hr rest)

/-- Settles O58: the step is the read, and taking it off the host's list changes no port. -/
theorem busyReads : Obligations.BusyReads := by
  intro p s rest hs hf hb
  obtain ⟨v, f, hread, hlt, hstatus, hcmd, hsteady⟩ := hostRead_busy (s := { s with host := rest }) hf hb
  have hstep : step s = hostRead p { s with host := rest } := by simp [step, hs]
  exact ⟨v, f, hstep.trans hread, hlt, hstatus, hcmd, fun h => portValue_host p s rest ▸ hsteady h⟩

/-- Settles O60: the value held is returned where there is one; an address above 2303 is refused before it is used. -/
theorem hostReadWhileIdle : Obligations.HostReadWhileIdle := by
  intro p s hb
  refine ⟨fun v hf hv => ?_, fun a ha hu => ?_, fun a ha => ?_⟩
  · rw [hostRead_idle hf hb, settledRead_of_value hv]
  · rw [hostRead_idle (by simp [portFault, ha]) hb]
    simp [settledRead, portValue, hu]
  · have hf : portFault (.tx a) = some (.txOutside a) := by simp [portFault, Nat.not_lt.mpr ha]
    simp [hostRead, hostWrite, hf]

/-- Settles O57: the write is the start event, and the code written is fetched. -/
theorem commandWriteStarts : Obligations.CommandWriteStarts := by
  intro v s rest hs hb
  have hstep : step s = .next (startCommand (BitVec.ofNat 3 v) { s with host := rest }) := by
    simp [step, hs, hostWrite, portFault, hb, writePort]
  exact ⟨_, hstep, rfl, by simp, by simp, by simp, by simp, by simp, by simp [fetch_eq]⟩

/-- Settles O52, by the fields of `State.reset` and of the reset event. -/
theorem resetValues : Obligations.ResetValues := by
  refine ⟨⟨rfl, rfl, rfl, rfl, rfl, rfl, rfl, rfl, ?_, fun a => rfl⟩, fun s rest hs => ?_⟩
  · simp [State.reset, IseInput.zero]
  · simp [step, hs, resetEvent]
end

section
/-! The host's writes while no command runs, and what a port reads after one: O59. -/

namespace Sys2Proof.Machine

/-! ### A byte of a block, read after a write -/

/-- The digit of weight `p` and base `w` in a number replaced: what is above it, the new digit, what is below it. -/
theorem replace_digit (n p w y : Nat) : n - n / p % w * p + y * p = p * (w * (n / p / w) + y) + n % p := by
  have hp : p * (n / p) + n % p = n := Nat.div_add_mod n p
  have hw : w * (n / p / w) + n / p % w = n / p := Nat.div_add_mod (n / p) w
  generalize n % p = r, n / p = q at hp hw ⊢
  generalize q / w = h, q % w = m at hw ⊢
  subst hw
  rw [Nat.mul_add] at hp ⊢
  rw [Nat.mul_comm m, Nat.mul_comm y]
  omega

theorem setBits_eq_ofNat (buf : Block) (low high x : Nat) :
    setBits buf low high x = BitVec.ofNat 128 (2 ^ low * (2 ^ (high - low + 1)
      * (buf.toNat / 2 ^ low / 2 ^ (high - low + 1)) + x % 2 ^ (high - low + 1)) + buf.toNat % 2 ^ low) := by
  rw [← replace_digit]
  rfl

/-- `setBits` changes the bits of its range and no other (R109). -/
theorem getLsbD_setBits {buf : Block} {low high : Nat} (x i : Nat) (hl : low ≤ high) (hh : high < 128) :
    (setBits buf low high x).getLsbD i = if low ≤ i ∧ i ≤ high then x.testBit (i - low) else buf.getLsbD i := by
  rw [setBits_eq_ofNat, BitVec.getLsbD_ofNat, Nat.testBit_two_pow_mul_add _ (Nat.mod_lt _ (Nat.two_pow_pos low))]
  by_cases hbelow : i < low
  · simp [hbelow, show i < 128 by omega, Nat.not_le.mpr hbelow, BitVec.getLsbD]
  rw [if_neg hbelow, Nat.testBit_two_pow_mul_add _ (Nat.mod_lt _ (Nat.two_pow_pos _))]
  by_cases hin : i ≤ high
  · simp [Nat.not_lt.mp hbelow, hin, show i < 128 by omega, show i - low < high - low + 1 by omega]
  · rw [if_neg (by omega), if_neg (by omega), Nat.testBit_div_two_pow, Nat.testBit_div_two_pow,
      show i - low - (high - low + 1) + (high - low + 1) + low = i by omega, ← BitVec.getLsbD]
    simpa using BitVec.lt_of_getLsbD

theorem getLsbD_blockByte (blk : Block) (k i : Nat) :
    (blockByte blk k).getLsbD i = (decide (i < 8) && blk.getLsbD (i + 8 * k)) := by
  rw [blockByte, BitVec.getLsbD_ofNat, Nat.testBit_div_two_pow, BitVec.getLsbD]

theorem blockByte_setBlockByte (blk : Block) {k : Nat} (k' v : Nat) (hk : k < 16) :
    blockByte (setBlockByte blk k v) k' = if k' = k then BitVec.ofNat 8 v else blockByte blk k' := by
  apply BitVec.eq_of_getLsbD_eq
  intro i hi
  rw [getLsbD_blockByte, setBlockByte, getLsbD_setBits _ _ (by omega) (by omega)]
  by_cases h : k' = k
  · rw [if_pos (by omega), if_pos h, BitVec.getLsbD_ofNat, h, Nat.add_sub_cancel]
  · rw [if_neg (by omega), if_neg h, getLsbD_blockByte]

/-! ### An entry of an ISE input, read after a write -/

/-- An element of a vector after the update of one element. -/
theorem getD_mapIdx_update {α : Type} {n : Nat} (xs : Vector α n) {i : Nat} (j : Nat) (f : α → α) (d : α) (hi : i < n) :
    (xs.mapIdx (fun k x => if k = i then f x else x))[j]?.getD d = if j = i then f xs[i] else xs[j]?.getD d := by
  by_cases h : j = i
  · simp [h, hi]
  · simp [h]

theorem iseRecord_eq (inp : IseInput) (k : Nat) : iseRecord inp k = inp.block[k]?.getD ⟨0, Vector.replicate 5 0⟩ := by
  simp [iseRecord]

@[simp] theorem iseInput_modifyIse_same (side : IseSide) (f : IseInput → IseInput) (s : State) :
    iseInput side (modifyIse side f s) = f (iseInput side s) := by
  cases side <;> rfl

theorem iseInput_modifyIse_other {side side' : IseSide} (f : IseInput → IseInput) (s : State) (h : side' ≠ side) :
    iseInput side' (modifyIse side f s) = iseInput side' s := by
  cases side with
  | weights =>
    cases side' with
    | weights => exact absurd rfl h
    | endpoints => rfl
  | endpoints =>
    cases side' with
    | weights => rfl
    | endpoints => exact absurd rfl h

/-- An update of one ISE input is seen at the ports of that input only. -/
theorem portValue_modifyIse_cases (p : Port) (side : IseSide) (f : IseInput → IseInput) (s : State) :
    portValue p (modifyIse side f s) = portValue p s ∨ p = .iseForm side ∨ (∃ i, p = .isePlain side i)
      ∨ (∃ k, p = .iseTq side k) ∨ ∃ k j, p = .iseBits side k j := by
  cases p with
  | iseForm side' | isePlain side' | iseTq side' | iseBits side' =>
    by_cases h : side' = side
    · simp [h]
    · simp [portValue, iseInput_modifyIse_other f s h]
  | cmd | status | cfg | blkInByte | blkOutByte | veParams | nbParams | tx => simp [portValue]

section
variable (inp : IseInput) (v : Nat)

theorem form_writeForm : ((writeForm v inp).form = .block) ↔ v % 2 = 1 := by
  unfold writeForm
  split <;> simp_all

@[simp] theorem plain_writeForm : (writeForm v inp).plain = inp.plain := rfl

@[simp] theorem iseRecord_writeForm (k : Nat) : iseRecord (writeForm v inp) k = iseRecord inp k := rfl

@[simp] theorem form_writePlain (i : Nat) : (writePlain i v inp).form = inp.form := rfl

@[simp] theorem iseRecord_writePlain (i k : Nat) : iseRecord (writePlain i v inp) k = iseRecord inp k := rfl

theorem plain_writePlain {i : Nat} (i' : Nat) (hi : i < 64) : (writePlain i v inp).plain[i']?.getD 0#8
    = if i' = i then BitVec.ofNat 8 v else inp.plain[i']?.getD 0#8 :=
  getD_mapIdx_update inp.plain i' (fun _ => BitVec.ofNat 8 v) 0#8 hi

theorem iseRecord_modifyIseBlock {k : Nat} (k' : Nat) (f : IseBlock → IseBlock) (hk : k < 64) :
    iseRecord (modifyIseBlock inp k f) k' = if k' = k then f (iseRecord inp k) else iseRecord inp k' := by
  have hrec : iseRecord inp k = inp.block[k] := by simp [iseRecord_eq, hk]
  rw [iseRecord_eq, hrec, iseRecord_eq inp k']
  exact getD_mapIdx_update inp.block k' f _ hk

@[simp] theorem form_writeTq (k : Nat) : (writeTq k v inp).form = inp.form := rfl

@[simp] theorem plain_writeTq (k : Nat) : (writeTq k v inp).plain = inp.plain := rfl

theorem tq_writeTq {k : Nat} (k' : Nat) (hk : k < 64) :
    (iseRecord (writeTq k v inp) k').tq = if k' = k then BitVec.ofNat 8 v else (iseRecord inp k').tq := by
  rw [writeTq, iseRecord_modifyIseBlock inp k' _ hk]
  split <;> rfl

theorem bits_writeTq {k : Nat} (k' : Nat) (hk : k < 64) :
    (iseRecord (writeTq k v inp) k').bits = (iseRecord inp k').bits := by
  rw [writeTq, iseRecord_modifyIseBlock inp k' _ hk]
  split <;> simp_all

@[simp] theorem form_writeIseBits (k j : Nat) : (writeIseBits k j v inp).form = inp.form := rfl

@[simp] theorem plain_writeIseBits (k j : Nat) : (writeIseBits k j v inp).plain = inp.plain := rfl

theorem tq_writeIseBits {k : Nat} (k' j : Nat) (hk : k < 64) :
    (iseRecord (writeIseBits k j v inp) k').tq = (iseRecord inp k').tq := by
  rw [writeIseBits, iseRecord_modifyIseBlock inp k' _ hk]
  split <;> simp_all

theorem bits_writeIseBits {k j : Nat} (k' j' : Nat) (hk : k < 64) (hj : j < 5) :
    (iseRecord (writeIseBits k j v inp) k').bits[j']?.getD 0#8
      = if k' = k ∧ j' = j then BitVec.ofNat 8 v else (iseRecord inp k').bits[j']?.getD 0#8 := by
  rw [writeIseBits, iseRecord_modifyIseBlock inp k' _ hk]
  by_cases h : k' = k
  · simpa [h] using getD_mapIdx_update (iseRecord inp k).bits j' (fun _ => BitVec.ofNat 8 v) 0#8 hj
  · simp [h]

end

/-! ### A port, read after a write -/

/-- A settable port reads back what was written, cut to its width. -/
theorem portValue_writePort_same {p : Port} (v : Nat) (s : State) (hset : portSettable p = true)
    (hf : portFault p = none) : portValue p (writePort p v s) = some (v % 2 ^ portWidth p) := by
  cases p with
  | cmd | status | blkOutByte => simp [portSettable] at hset
  | cfg | veParams | nbParams => simp [portValue, writePort, portWidth]
  | blkInByte k =>
    have hk : k < 16 := by simpa [portFault] using hf
    simp [portValue, writePort, portWidth, blockByte_setBlockByte _ _ _ hk]
  | iseForm side =>
    simp only [portValue, writePort, portWidth, iseInput_modifyIse_same, form_writeForm]
    split <;> simp <;> omega
  | isePlain side i =>
    have hi : i < 64 := by simpa [portFault] using hf
    simp [portValue, writePort, portWidth, plain_writePlain _ _ _ hi]
  | iseTq side k =>
    have hk : k < 64 := by simpa [portFault] using hf
    simp [portValue, writePort, portWidth, tq_writeTq _ _ _ hk]
  | iseBits side k j =>
    obtain ⟨hk, hj⟩ : k < 64 ∧ j < 5 := by simpa [portFault] using hf
    simp [portValue, writePort, portWidth, bits_writeIseBits _ _ _ _ hk hj]
  | tx addr => simp [portValue, writePort, portWidth, Memory.read_writeBytes]

/-- Every other port keeps its value. -/
theorem portValue_writePort_other {p p' : Port} (v : Nat) (s : State) (hset : portSettable p = true)
    (hf : portFault p = none) (hne : p' ≠ p) : portValue p' (writePort p v s) = portValue p' s := by
  cases p with
  | cmd | status | blkOutByte => simp [portSettable] at hset
  | cfg =>
    cases p' with
    | cfg => exact absurd rfl hne
    | _ => rfl
  | veParams =>
    cases p' with
    | veParams => exact absurd rfl hne
    | _ => rfl
  | nbParams =>
    cases p' with
    | nbParams => exact absurd rfl hne
    | _ => rfl
  | blkInByte k =>
    have hk : k < 16 := by simpa [portFault] using hf
    cases p' with
    | blkInByte k' =>
      have hk' : k' ≠ k := fun h => hne (h ▸ rfl)
      simp [portValue, writePort, blockByte_setBlockByte _ _ _ hk, hk']
    | _ => rfl
  | iseForm side =>
    obtain h | rfl | ⟨i', rfl⟩ | ⟨k', rfl⟩ | ⟨k', j', rfl⟩ := portValue_modifyIse_cases p' side (writeForm v) s
    · exact h
    · exact absurd rfl hne
    all_goals simp [portValue, writePort]
  | isePlain side i =>
    have hi : i < 64 := by simpa [portFault] using hf
    obtain h | rfl | ⟨i', rfl⟩ | ⟨k', rfl⟩ | ⟨k', j', rfl⟩ := portValue_modifyIse_cases p' side (writePlain i v) s
    · exact h
    · simp [portValue, writePort]
    · have hi' : i' ≠ i := fun h => hne (h ▸ rfl)
      simp [portValue, writePort, plain_writePlain _ _ _ hi, hi']
    all_goals simp [portValue, writePort]
  | iseTq side k =>
    have hk : k < 64 := by simpa [portFault] using hf
    obtain h | rfl | ⟨i', rfl⟩ | ⟨k', rfl⟩ | ⟨k', j', rfl⟩ := portValue_modifyIse_cases p' side (writeTq k v) s
    · exact h
    · simp [portValue, writePort]
    · simp [portValue, writePort]
    · have hk' : k' ≠ k := fun h => hne (h ▸ rfl)
      simp [portValue, writePort, tq_writeTq _ _ _ hk, hk']
    · simp [portValue, writePort, bits_writeTq _ _ _ hk]
  | iseBits side k j =>
    obtain ⟨hk, hj⟩ : k < 64 ∧ j < 5 := by simpa [portFault] using hf
    obtain h | rfl | ⟨i', rfl⟩ | ⟨k', rfl⟩ | ⟨k', j', rfl⟩ := portValue_modifyIse_cases p' side (writeIseBits k j v) s
    · exact h
    · simp [portValue, writePort]
    · simp [portValue, writePort]
    · simp [portValue, writePort, tq_writeIseBits _ _ _ _ hk]
    · have hkj : ¬ (k' = k ∧ j' = j) := fun ⟨hk', hj'⟩ => hne (hk' ▸ hj' ▸ rfl)
      simp [portValue, writePort, bits_writeIseBits _ _ _ _ hk hj, hkj]
  | tx addr =>
    cases p' with
    | tx addr' =>
      have ha : addr' ≠ addr := fun h => hne (h ▸ rfl)
      have hread := Memory.read_writeBytes_outside s.tx addr [BitVec.ofNat 8 v] addr' (by simp; omega)
      simp [portValue, writePort, hread]
    | _ => rfl

/-- A write to a settable port leaves the phase and the model's own fields. -/
theorem writePort_frame {p : Port} (v : Nat) (s : State) (hset : portSettable p = true) :
    (writePort p v s).phase = s.phase ∧ (writePort p v s).host = s.host ∧ (writePort p v s).readData = s.readData
      ∧ (writePort p v s).freeCount = s.freeCount := by
  cases p with
  | cmd => simp [portSettable] at hset
  | _ => simp [writePort]

end Sys2Proof.Machine

open Sys2Proof.Machine

/-- Settles O59: the write is `writePort`, whose effect on a port is read off register by register. -/
theorem hostAccessWhileIdle : Obligations.HostAccessWhileIdle := by
  intro p v s hset hf hb
  have hwrite : hostWrite p v s = .next (writePort p v s) := by simp [hostWrite, hf, hb]
  exact ⟨_, hwrite, portValue_writePort_same v s hset hf, fun p' hne _ => portValue_writePort_other v s hset hf hne,
    writePort_frame v s hset⟩
end

section
/-! Two runs that differ in `TX`: O48. -/

namespace Sys2Proof.Machine

/-- A function of the state goes on whatever `TX` holds, to the same registers, with the same bytes written at the front
of `TX` (none, when the buffer is left as it was). -/
def TxBlind (f : State → Result) (s : State) : Prop :=
  ∃ (t : State) (bs : List Byte), ∀ m, f { s with tx := m } = .next { t with tx := m.writeBytes 0 bs }

theorem Memory.writeBytes_zero_nil (m : Memory) : m.writeBytes 0 [] = m := by
  simp [Memory.writeBytes, Memory.below, Memory.above, cellsAt]

/-- A byte after a write at the front: the same for both old contents, or each one's own. -/
theorem Memory.read_writeBytes_two (m n : Memory) (bs : List Byte) (a : Nat) :
    (m.writeBytes 0 bs).read a = (n.writeBytes 0 bs).read a
      ∨ ((m.writeBytes 0 bs).read a = m.read a ∧ (n.writeBytes 0 bs).read a = n.read a) := by
  by_cases ha : a < bs.length
  · left
    simp [Memory.read_writeBytes, ha]
  · right
    have hout : a < 0 ∨ 0 + bs.length ≤ a := by omega
    exact ⟨Memory.read_writeBytes_outside m 0 bs a hout, Memory.read_writeBytes_outside n 0 bs a hout⟩

/-! ### The ways to end a step -/

section
variable {s : State}

/-- Registers that do not depend on `TX`, and `TX` as it was. -/
theorem txBlind_of_keep {f : State → Result} (t : State) (h : ∀ m, f { s with tx := m } = .next { t with tx := m }) :
    TxBlind f s :=
  ⟨t, [], fun m => by rw [Memory.writeBytes_zero_nil, h]⟩

/-- A choice by a condition that does not look at `TX`. -/
theorem TxBlind.ite {p : State → Prop} [DecidablePred p] {f g : State → Result}
    (hp : ∀ m, p { s with tx := m } ↔ p s) (hf : TxBlind f s) (hg : TxBlind g s) :
    TxBlind (fun s => if p s then f s else g s) s := by
  by_cases h : p s
  · simpa [TxBlind, hp, h] using hf
  · simpa [TxBlind, hp, h] using hg

theorem refuse_txBlind (c : Cause) : TxBlind (refuse c) s := txBlind_of_keep (endCommand c true s) fun _ => rfl

theorem succeed_txBlind : TxBlind succeed s := txBlind_of_keep (endCommand .none false s) fun _ => rfl

/-- What a decode stores is made of `CFG` and its texels; `ISVALID` stores nothing (R340). -/
theorem storeTexels_writes (ts : List Rgba) (s : State) :
    ∃ bs, ∀ m, storeTexels ts { s with tx := m } = { s with tx := m.writeBytes 0 bs } := by
  by_cases hw : writesTx s = true
  · exact ⟨texelsBytes (cfgSrgb s.cfg) ts, fun _ => if_pos hw⟩
  · exact ⟨[], fun m => by rw [Memory.writeBytes_zero_nil]; exact if_neg hw⟩

/-- The end of a decode whose texels and cause do not depend on `TX`. -/
theorem finish_txBlind {ts : State → List Rgba} {c : State → Cause} (hts : ∀ m, ts { s with tx := m } = ts s)
    (hc : ∀ m, c { s with tx := m } = c s) : TxBlind (fun s => finish (ts s) (c s) s) s := by
  obtain ⟨bs, hbs⟩ := storeTexels_writes (ts s) s
  refine ⟨endCommand (c s) (decide (c s = .veInfNan)) s, bs, fun m => ?_⟩
  simp only [finish_eq, hts, hc, hbs]
  rfl

theorem errorBlock_txBlind (c : Cause) : TxBlind (errorBlock c) s := finish_txBlind (fun _ => rfl) fun _ => rfl

/-! ### The instructions, by their shapes -/

theorem beginDecode_txBlind (c : BitVec 3) : TxBlind (beginDecode c) s :=
  .ite (fun _ => .rfl) (txBlind_of_keep (latchBlock c s) fun _ => rfl) (refuse_txBlind _)

theorem execEncVoid_txBlind : TxBlind execEncVoid s :=
  .ite (fun _ => .rfl) (refuse_txBlind _)
    (txBlind_of_keep (endCommand .none false { s with blkOut := voidBlock s.veParams }) fun _ => rfl)

theorem execEncNormal_txBlind : TxBlind execEncNormal s := by
  refine .ite (fun _ => .rfl) (refuse_txBlind _) ?_
  cases hl : legalWeightIse s.cfg s.nbParams with
  | none => simpa only [TxBlind, hl] using refuse_txBlind (s := s) .encParam
  | some ise =>
    have hin : TxBlind (fun s => if inputsInRange (normalParams s.nbParams) ise s.wIseIn s.eIseIn then
        succeed { s with blkOut := normalBlock s.nbParams ise s.wIseIn s.eIseIn } else refuse .encParam s) s :=
      .ite (fun _ => .rfl)
        (txBlind_of_keep
          (endCommand .none false { s with blkOut := normalBlock s.nbParams ise s.wIseIn s.eIseIn }) fun _ => rfl)
        (refuse_txBlind _)
    simpa only [TxBlind, hl] using hin

theorem execGenDefault_txBlind : TxBlind execGenDefault s := by
  refine .ite (fun _ => .rfl) (refuse_txBlind _) ?_
  cases hl : legalWeightIse s.cfg s.nbParams with
  | none => simpa only [TxBlind, hl] using refuse_txBlind (s := s) .encParam
  | some ise =>
    refine txBlind_of_keep (endCommand .none false
      { s with wIseIn := defaultWeights (normalParams s.nbParams) ise s.wIseIn
               eIseIn := defaultEndpoints (normalParams s.nbParams) ise s.eIseIn }) fun m => ?_
    simp only [hl]
    rfl

theorem execVoidExtent_txBlind (d : Bool) (rsv : BitVec 2) (minS maxS minT maxT : BitVec 13)
    (cr cg cb ca : BitVec 16) : TxBlind (execVoidExtent d rsv minS maxS minT maxT cr cg cb ca) s :=
  .ite (fun _ => .rfl) (errorBlock_txBlind _) <| .ite (fun _ => .rfl) (errorBlock_txBlind _) <|
    .ite (fun _ => .rfl) (errorBlock_txBlind _) <| finish_txBlind (fun _ => rfl) fun _ => rfl

theorem acceptMode_txBlind (bm : BlockModeInfo) : TxBlind (acceptMode bm) s :=
  .ite (fun _ => .rfl) (errorBlock_txBlind _) <| .ite (fun _ => .rfl) (errorBlock_txBlind _) <|
    .ite (fun _ => .rfl) (errorBlock_txBlind _) <| txBlind_of_keep (latchMode bm s) fun _ => rfl

/-- A normal block whose values and formulas do not depend on `TX`. -/
theorem assembleBlock_txBlind {nv : State → NormalValues} {fs : State → List (List Nat → EndpointPair)} {blk : Nat}
    (hnv : ∀ m, nv { s with tx := m } = nv s) (hfs : ∀ m, fs { s with tx := m } = fs s) :
    TxBlind (fun s => assembleBlock (nv s) (fs s) blk s) s :=
  .ite (fun m => by rw [hnv]) (errorBlock_txBlind _) <| .ite (fun m => by rw [hnv]) (errorBlock_txBlind _) <|
    .ite (fun m => by rw [hnv]) (errorBlock_txBlind _) <|
    finish_txBlind (fun m => by rw [hnv, hfs]) fun m => by rw [hnv]

theorem singlePartition_txBlind (cem : Nat) (formula : List Nat → EndpointPair) (data : BitVec 111) :
    TxBlind (singlePartition cem formula data) s :=
  assembleBlock_txBlind (fun _ => rfl) fun _ => rfl

theorem sharedPartitions_txBlind (n cem : Nat) (formula : List Nat → EndpointPair) (seed : BitVec 10)
    (data : BitVec 99) : TxBlind (sharedPartitions n cem formula seed data) s :=
  assembleBlock_txBlind (fun _ => rfl) fun _ => rfl

theorem independentPartitions_txBlind (n sel : Nat) (seed : BitVec 10) (str4 : BitVec 4) (data : BitVec 99) :
    TxBlind (independentPartitions n sel seed str4 data) s :=
  assembleBlock_txBlind (fun _ => rfl) fun _ => rfl

/-- No instruction looks at `TX`, by its row; the last case is that of the 48 rows with a shared CEM. -/
theorem exec_txBlind (i : Instr) (s : State) : TxBlind (exec i) s := by
  delta exec
  cases i with
  | nop => exact succeed_txBlind
  | decode | isvalid => exact beginDecode_txBlind _
  | encVoid => exact execEncVoid_txBlind
  | encNormal => exact execEncNormal_txBlind
  | genDefault => exact execGenDefault_txBlind
  | reserved6 | reserved7 => exact refuse_txBlind _
  | voidExtent _ rsv => exact execVoidExtent_txBlind _ rsv _ _ _ _ _ _ _ _
  | reservedLow4Zero | reserved111_01 | reserved111_10 | reserved111_11_00 | reserved111_11_01
  | reserved111_11_10 => exact errorBlock_txBlind _
  | modeL0R1 | modeL0R2 | modeL0R3 | modeL1R1 | modeL1R2 | modeL1R3 | modeL2R1 | modeL2R2 | modeL2R3 | modeL3R1
  | modeL3R2 | modeL3R3 | modeL4R1 | modeL4R2 | modeL4R3 | modeL5R1 | modeL5R2 | modeL5R3 | modeL6R1 | modeL6R2
  | modeL6R3 | modeL7R1 | modeL7R2 | modeL7R3 | modeL8R1 | modeL8R2 | modeL8R3 | modeL9R1 | modeL9R2 | modeL9R3 =>
    exact acceptMode_txBlind _
  | cem0LdrLumDirect | cem1LdrLumBaseOffset | cem2HdrLumLarge | cem3HdrLumSmall | cem4LdrLumaDirect
  | cem5LdrLumaBaseOffset | cem6LdrRgbBaseScale | cem7HdrRgbBaseScale | cem8LdrRgbDirect | cem9LdrRgbBaseOffset
  | cem10LdrRgbBaseScale2a | cem11HdrRgbDirect | cem12LdrRgbaDirect | cem13LdrRgbaBaseOffset
  | cem14HdrRgbLdrAlpha | cem15HdrRgbHdrAlpha => exact singlePartition_txBlind _ _ _
  | p2IndepSel1 | p2IndepSel2 | p2IndepSel3 | p3IndepSel1 | p3IndepSel2 | p3IndepSel3 | p4IndepSel1 | p4IndepSel2
  | p4IndepSel3 => exact independentPartitions_txBlind _ _ _ _ _
  | _ => exact sharedPartitions_txBlind _ _ _ _ _

end

end Sys2Proof.Machine

open Sys2Proof.Machine

/-- Settles O48: both runs are one result as a function of `TX`, which gives the same registers and the same bytes
written whatever the buffer held. -/
theorem texelsDoNotDependOnTx : Obligations.TexelsDoNotDependOnTx := by
  intro i s m t u ht hu
  obtain ⟨e, bs, he⟩ := exec_txBlind i s
  obtain rfl : { e with tx := s.tx.writeBytes 0 bs } = t := Host.Outcome.next.inj ((he s.tx).symm.trans ht)
  obtain rfl : { e with tx := m.writeBytes 0 bs } = u := Host.Outcome.next.inj ((he m).symm.trans hu)
  exact ⟨rfl, Memory.read_writeBytes_two s.tx m bs⟩
end

section
/-! The decoder on the words that the encoder makes: O1, and the written words of O4. -/

namespace Sys2Proof

/-! ### Fields of a word -/

theorem bitsOf_lt (w hi lo : Nat) : bitsOf w hi lo < 2 ^ (hi - lo + 1) := Nat.mod_lt _ (Nat.two_pow_pos _)

theorem toNat_bitAt (w i : Nat) : (bitAt w i).toNat = w / 2 ^ i % 2 := by
  unfold bitAt
  rcases Nat.mod_two_eq_zero_or_one (w / 2 ^ i) with h | h <;> simp [h]

theorem bitAt_eq {w i : Nat} {x : Bool} (h : w / 2 ^ i % 2 = x.toNat) : bitAt w i = x := by
  rw [bitAt, h]
  cases x <;> rfl

theorem bitAt_iff (w i : Nat) : bitAt w i = true ↔ w / 2 ^ i % 2 = 1 := by
  rw [bitAt, beq_iff_eq]

/-! ### Normal block modes, by their fields -/

/-- A normal block mode (R74): `k` is its bits 3:0, `b` its bits 8:7, `a` its bits 6:5. -/
def modeWord (k : Nat) (d h r0 : Bool) (b a : Nat) : Nat := k + encodeDHR d h r0 + b * 2 ^ 7 + a * 2 ^ 5

/-- The row of a mode word with bits 1:0 not 00: layouts 0 to 4. -/
def lowModeRow (k : Nat) (d h r0 : Bool) (b a : Nat) : Instr :=
  match k / 4 with
  | 0 => decodeLayout0 (k % 4) d h b a r0
  | 1 => decodeLayout1 (k % 4) d h b a r0
  | 2 => decodeLayout2 (k % 4) d h b a r0
  | _ => if b / 2 = 1 then decodeLayout4 (k % 4) d h (b % 2) a r0 else decodeLayout3 (k % 4) d h (b % 2) a r0

/-- The row of a mode word with bits 1:0 = 00: layouts 5 to 9. -/
def highModeRow (k : Nat) (d h r0 : Bool) (b a : Nat) : Instr :=
  match b with
  | 0 => decodeLayout5 (k / 4) d h a r0
  | 1 => decodeLayout6 (k / 4) d h a r0
  | 2 => decodeLayout9 (k / 4) (d.toNat * 2 + h.toNat) a r0
  | _ => if a % 2 = 1 then decodeLayout8 (k / 4) d h r0 else decodeLayout7 (k / 4) d h r0

theorem decodeBlockMode_ofNat {m : Nat} (hm : m < 2 ^ 11) (hv : bitsOf m 8 0 ≠ 0x1FC) :
    decodeBlockMode (BitVec.ofNat 128 m) = decodeModeRow m := by
  have hw : (BitVec.ofNat 128 m).toNat = m := by rw [BitVec.toNat_ofNat]; omega
  have hb : bitsOf m 10 0 = m := by unfold bitsOf; omega
  rw [decodeBlockMode, hw, hb, if_neg hv]

section
variable {k b a : Nat} (hb : b < 4) (ha : a < 4) (d h r0 : Bool)
include hb ha

theorem modeWord_bits (hk : k < 16) :
    modeWord k d h r0 b a < 2 ^ 11 ∧ bitsOf (modeWord k d h r0 b a) 3 0 = k
      ∧ bitsOf (modeWord k d h r0 b a) 1 0 = k % 4 ∧ bitsOf (modeWord k d h r0 b a) 3 2 = k / 4
      ∧ bitsOf (modeWord k d h r0 b a) 6 5 = a ∧ bitsOf (modeWord k d h r0 b a) 8 7 = b
      ∧ bitsOf (modeWord k d h r0 b a) 7 7 = b % 2 ∧ bitsOf (modeWord k d h r0 b a) 8 6 = b * 2 + a / 2
      ∧ bitsOf (modeWord k d h r0 b a) 10 9 = d.toNat * 2 + h.toNat := by
  have hd := d.toNat_le
  have hh := h.toNat_le
  have hr := r0.toNat_le
  simp only [bitsOf, modeWord, encodeDHR]
  omega

theorem modeWord_flags (hk : k < 16) :
    bitAt (modeWord k d h r0 b a) 10 = d ∧ bitAt (modeWord k d h r0 b a) 9 = h ∧ bitAt (modeWord k d h r0 b a) 4 = r0
      ∧ (bitAt (modeWord k d h r0 b a) 8 = true ↔ b / 2 = 1)
      ∧ (bitAt (modeWord k d h r0 b a) 5 = true ↔ a % 2 = 1) := by
  have hd := d.toNat_le
  have hh := h.toNat_le
  have hr := r0.toNat_le
  rw [bitAt_iff, bitAt_iff]
  refine ⟨bitAt_eq ?_, bitAt_eq ?_, bitAt_eq ?_, ?_, ?_⟩ <;> simp only [modeWord, encodeDHR] <;> omega

theorem decodeBlockMode_modeWord_low (hk : k < 16 ∧ k % 4 ≠ 0) :
    decodeBlockMode (BitVec.ofNat 128 (modeWord k d h r0 b a)) = lowModeRow k d h r0 b a := by
  obtain ⟨hlt, h30, h10, h32, h65, h87, h77, -, -⟩ := modeWord_bits hb ha d h r0 hk.1
  obtain ⟨hd, hh, hr, h8, -⟩ := modeWord_flags hb ha d h r0 hk.1
  have hv : bitsOf (modeWord k d h r0 b a) 8 0 ≠ 0x1FC := by unfold bitsOf at *; omega
  have hk0 : k ≠ 0 := by omega
  rw [decodeBlockMode_ofNat hlt hv]
  simp [decodeModeRow, decodeModeLow, h30, h10, h32, h65, h87, h77, hd, hh, hr, h8, hk, hk0]
  rfl

theorem decodeBlockMode_modeWord_high (hk : k < 16 ∧ k % 4 = 0 ∧ k ≠ 0) (hn : b * 2 + a / 2 ≠ 7) :
    decodeBlockMode (BitVec.ofNat 128 (modeWord k d h r0 b a)) = highModeRow k d h r0 b a := by
  obtain ⟨hlt, h30, h10, h32, h65, h87, -, h86, h109⟩ := modeWord_bits hb ha d h r0 hk.1
  obtain ⟨hd, hh, hr, -, h5⟩ := modeWord_flags hb ha d h r0 hk.1
  have hv : bitsOf (modeWord k d h r0 b a) 8 0 ≠ 0x1FC := by unfold bitsOf at *; omega
  rw [decodeBlockMode_ofNat hlt hv]
  simp [decodeModeRow, decodeModeHigh, h30, h10, h32, h65, h87, h86, h109, hd, hh, hr, h5, hn, hk]
  rfl

end

/-! ### Normal block modes, as the encoder writes them: `c` is the row's fixed bits -/

section
variable {c b a : Nat} (d h r0 : Bool)

theorem decodeBlockMode_layouts0to2 (hb : b < 4) (ha : a < 4) (hc : c < 12 ∧ c % 4 ≠ 0) :
    decodeBlockMode (BitVec.ofNat 128 (c + encodeDHR d h r0 + b % 4 * 2 ^ 7 + a % 4 * 2 ^ 5))
      = lowModeRow c d h r0 b a := by
  rw [Nat.mod_eq_of_lt hb, Nat.mod_eq_of_lt ha]
  exact decodeBlockMode_modeWord_low hb ha d h r0 (by omega)

theorem decodeBlockMode_layout3 (hb : b < 2) (ha : a < 4) (hc : 12 < c ∧ c < 16) :
    decodeBlockMode (BitVec.ofNat 128 (c + encodeDHR d h r0 + b % 2 * 2 ^ 7 + a % 4 * 2 ^ 5))
      = decodeLayout3 (c % 4) d h b a r0 := by
  have hq : c / 4 = 3 := by omega
  rw [Nat.mod_eq_of_lt hb, Nat.mod_eq_of_lt ha]
  refine (decodeBlockMode_modeWord_low (by omega) ha d h r0 (by omega)).trans ?_
  simp [lowModeRow, hq, Nat.div_eq_of_lt hb, Nat.mod_eq_of_lt hb]

theorem decodeBlockMode_layout4 (hb : b < 2) (ha : a < 4) (hc : 0x10C < c ∧ c < 0x110) :
    decodeBlockMode (BitVec.ofNat 128 (c + encodeDHR d h r0 + b % 2 * 2 ^ 7 + a % 4 * 2 ^ 5))
      = decodeLayout4 (c % 16 % 4) d h b a r0 := by
  have hw : c + encodeDHR d h r0 + b % 2 * 2 ^ 7 + a % 4 * 2 ^ 5 = modeWord (c % 16) d h r0 (b + 2) a := by
    unfold modeWord; omega
  have hb2 : (b + 2) / 2 = 1 ∧ (b + 2) % 2 = b := by omega
  have hq : c % 16 / 4 = 3 := by omega
  rw [hw, decodeBlockMode_modeWord_low (by omega) ha d h r0 (by omega)]
  simp only [lowModeRow, hb2, hq, if_true]

theorem decodeBlockMode_layouts5and6 (ha : a < 4) (hc : c % 4 = 0 ∧ c / 4 % 4 ≠ 0 ∧ c / 16 % 8 = 0 ∧ c < 0x100) :
    decodeBlockMode (BitVec.ofNat 128 (c + encodeDHR d h r0 + a % 4 * 2 ^ 5))
      = highModeRow (c % 16) d h r0 (c / 2 ^ 7) a := by
  have hw : c + encodeDHR d h r0 + a % 4 * 2 ^ 5 = modeWord (c % 16) d h r0 (c / 2 ^ 7) a := by
    unfold modeWord; omega
  rw [hw]
  exact decodeBlockMode_modeWord_high (by omega) ha d h r0 (by omega) (by omega)

theorem decodeBlockMode_layouts7and8 (hc : c % 4 = 0 ∧ c / 4 % 4 ≠ 0 ∧ c / 16 % 2 = 0 ∧ 0x180 ≤ c ∧ c < 0x1C0) :
    decodeBlockMode (BitVec.ofNat 128 (c + encodeDHR d h r0)) = highModeRow (c % 16) d h r0 3 (c / 2 ^ 5 % 4) := by
  have hw : c + encodeDHR d h r0 = modeWord (c % 16) d h r0 3 (c / 2 ^ 5 % 4) := by
    unfold modeWord; omega
  rw [hw]
  exact decodeBlockMode_modeWord_high (by omega) (by omega) d h r0 (by omega) (by omega)

/-- Layout 9 has the two bits of `b` in the place of `D` and `H`. -/
theorem decodeBlockMode_layout9 (hb : b < 4) (ha : a < 4) (hc : c % 4 = 0 ∧ 0x100 < c ∧ c < 0x110) :
    decodeBlockMode (BitVec.ofNat 128 (c + b % 4 * 2 ^ 9 + a % 4 * 2 ^ 5 + r0.toNat * 2 ^ 4))
      = decodeLayout9 (c % 16 / 4) b a r0 := by
  have hdh : (bitAt b 1).toNat * 2 + (bitAt b 0).toNat = b := by
    simp only [toNat_bitAt]; omega
  have hw : c + b % 4 * 2 ^ 9 + a % 4 * 2 ^ 5 + r0.toNat * 2 ^ 4
      = modeWord (c % 16) (bitAt b 1) (bitAt b 0) r0 2 a := by
    unfold modeWord encodeDHR; omega
  rw [hw, decodeBlockMode_modeWord_high (by omega) ha _ _ _ (by omega) (by omega)]
  simp only [highModeRow, hdh]

end

/-! ### The other block modes -/

theorem decodeBlockMode_reservedLow4Zero (x : BitVec 7) :
    decodeBlockMode (BitVec.ofNat 128 (0x0 + x.toNat * 2 ^ 4)) = .reservedLow4Zero x := by
  have h30 : bitsOf (0x0 + x.toNat * 2 ^ 4) 3 0 = 0 := by unfold bitsOf; omega
  have hx : bitsOf (0x0 + x.toNat * 2 ^ 4) 10 4 = x.toNat := by unfold bitsOf; omega
  rw [decodeBlockMode_ofNat (by omega) (by unfold bitsOf; omega), decodeModeRow, if_pos h30, hx, BitVec.ofNat_toNat,
    BitVec.setWidth_eq]

/-- The reserved row with bits 8:6 = 111 and bits 1:0 = 00: `q` is its bits 3:2, `lo` its bits 5:4. -/
def reservedRow (q : Nat) (hi lo : BitVec 2) : Instr :=
  match q with
  | 1 => .reserved111_01 hi lo
  | 2 => .reserved111_10 hi lo
  | _ =>
    match lo.toNat with
    | 0 => .reserved111_11_00 hi
    | 1 => .reserved111_11_01 hi
    | _ => .reserved111_11_10 hi

/-- With `q` = 3 and `lo` = 3 the word would be the void-extent sentinel. -/
theorem decodeBlockMode_reserved111 {m q : Nat} (hi lo : BitVec 2) (hq : 0 < q ∧ q < 4) (hlo : q = 3 → lo.toNat < 3)
    (hm : 0x1C0 + 4 * q + hi.toNat * 2 ^ 9 + lo.toNat * 2 ^ 4 = m) :
    decodeBlockMode (BitVec.ofNat 128 m) = reservedRow q hi lo := by
  have h30 : bitsOf m 3 0 ≠ 0 := by unfold bitsOf; omega
  have h10 : bitsOf m 1 0 = 0 := by unfold bitsOf; omega
  have h86 : bitsOf m 8 6 = 7 := by unfold bitsOf; omega
  have h32 : bitsOf m 3 2 = q := by unfold bitsOf; omega
  have h54 : bitsOf m 5 4 = lo.toNat := by unfold bitsOf; omega
  have h109 : bitsOf m 10 9 = hi.toNat := by unfold bitsOf; omega
  rw [decodeBlockMode_ofNat (by omega) (by unfold bitsOf; omega), decodeModeRow, if_neg h30, if_pos ⟨h10, h86⟩]
  simp [decodeReserved111, h32, h54, h109]
  rfl

theorem decodeBlockMode_voidExtent (d : Bool) (rsv : BitVec 2) (minS maxS minT maxT : BitVec 13)
    (cr cg cb ca : BitVec 16) :
    decodeBlockMode (BitVec.ofNat 128 (encodeWord (.voidExtent d rsv minS maxS minT maxT cr cg cb ca)))
      = .voidExtent d rsv minS maxS minT maxT cr cg cb ca := by
  have hlt : encodeWord (.voidExtent d rsv minS maxS minT maxT cr cg cb ca) < 2 ^ 128 :=
    Laws.EncodedFits.voidExtent d rsv minS maxS minT maxT cr cg cb ca
  have hd := d.toNat_le
  generalize hw : encodeWord (.voidExtent d rsv minS maxS minT maxT cr cg cb ca) = w at hlt
  simp only [encodeWord] at hw
  have hv : (BitVec.ofNat 128 w).toNat = w := by rw [BitVec.toNat_ofNat]; omega
  have h80 : bitsOf w 8 0 = 0x1FC := by unfold bitsOf; omega
  have h9 : bitAt w 9 = d := bitAt_eq (by omega)
  rw [decodeBlockMode, hv, if_pos h80, decodeVoidExtent, h9]
  simp only [Instr.voidExtent.injEq, true_and, ← BitVec.toNat_inj, BitVec.toNat_ofNat, bitsOf]
  omega

/-! ### Partition and CEM fields -/

/-- The row of a block of `p + 1` partitions: `four` is `blk[28:25]`, the shared CEM or the first bits of `S` (R77). -/
def multiRow (p sel : Nat) (seed : BitVec 10) (four : BitVec 4) (data : BitVec 99) : Instr :=
  match p with
  | 1 => if sel = 0 then decodeCemShared2 four.toNat seed data else decodeCemIndep2 sel seed four data
  | 2 => if sel = 0 then decodeCemShared3 four.toNat seed data else decodeCemIndep3 sel seed four data
  | _ => if sel = 0 then decodeCemShared4 four.toNat seed data else decodeCemIndep4 sel seed four data

theorem decodeEndpoint_single {blk : Block} (hp : bitsOf blk.toNat 12 11 = 0) :
    decodeEndpoint blk = decodeCemSingle (bitsOf blk.toNat 16 13) (BitVec.ofNat 111 (bitsOf blk.toNat 127 17)) := by
  simp [decodeEndpoint, hp]

theorem decodeEndpoint_multi {blk : Block} (hp : bitsOf blk.toNat 12 11 ≠ 0) :
    decodeEndpoint blk = multiRow (bitsOf blk.toNat 12 11) (bitsOf blk.toNat 24 23)
      (BitVec.ofNat 10 (bitsOf blk.toNat 22 13)) (BitVec.ofNat 4 (bitsOf blk.toNat 28 25))
      (BitVec.ofNat 99 (bitsOf blk.toNat 127 29)) := by
  have hf : (BitVec.ofNat 4 (bitsOf blk.toNat 28 25)).toNat = bitsOf blk.toNat 28 25 :=
    Nat.mod_eq_of_lt (bitsOf_lt _ _ _)
  have hlt : bitsOf blk.toNat 12 11 < 4 := bitsOf_lt _ _ _
  unfold decodeEndpoint multiRow
  simp only [hf]
  generalize bitsOf blk.toNat 12 11 = p at hp hlt
  obtain rfl | rfl | rfl : p = 1 ∨ p = 2 ∨ p = 3 := by omega
  all_goals rfl

theorem decodeEndpoint_encodeSingle {c : Nat} (data : BitVec 111) (hc : c % 2 ^ 13 = 0 ∧ c < 2 ^ 17) :
    decodeEndpoint (BitVec.ofNat 128 (c + encodeSingle data)) = decodeCemSingle (c / 2 ^ 13) data := by
  generalize hm : c + encodeSingle data = m
  unfold encodeSingle at hm
  have hw : (BitVec.ofNat 128 m).toNat = m := by rw [BitVec.toNat_ofNat]; omega
  have hp : bitsOf m 12 11 = 0 := by unfold bitsOf; omega
  have hcem : bitsOf m 16 13 = c / 2 ^ 13 := by unfold bitsOf; omega
  have hdata : bitsOf m 127 17 = data.toNat := by unfold bitsOf; omega
  rw [decodeEndpoint_single (hw.symm ▸ hp), hw, hcem, hdata, BitVec.ofNat_toNat, BitVec.setWidth_eq]

theorem decodeEndpoint_encodeMulti {c : Nat} (seed : BitVec 10) (four : BitVec 4) (data : BitVec 99)
    (hc : c / 2 ^ 11 % 4 ≠ 0 ∧ c / 2 ^ 13 % 2 ^ 10 = 0 ∧ c < 2 ^ 25) :
    decodeEndpoint (BitVec.ofNat 128 (c + encodeMulti seed data + four.toNat * 2 ^ 25))
      = multiRow (c / 2 ^ 11 % 4) (c / 2 ^ 23) seed four data := by
  generalize hm : c + encodeMulti seed data + four.toNat * 2 ^ 25 = m
  unfold encodeMulti at hm
  have hw : (BitVec.ofNat 128 m).toNat = m := by rw [BitVec.toNat_ofNat]; omega
  have hp : bitsOf m 12 11 = c / 2 ^ 11 % 4 := by unfold bitsOf; omega
  have hseed : bitsOf m 22 13 = seed.toNat := by unfold bitsOf; omega
  have hsel : bitsOf m 24 23 = c / 2 ^ 23 := by unfold bitsOf; omega
  have hfour : bitsOf m 28 25 = four.toNat := by unfold bitsOf; omega
  have hdata : bitsOf m 127 29 = data.toNat := by unfold bitsOf; omega
  rw [decodeEndpoint_multi (by rw [hw, hp]; exact hc.1), hw, hp, hseed, hsel, hfour, hdata]
  simp only [BitVec.ofNat_toNat, BitVec.setWidth_eq]

/-- A shared CEM is part of the row's fixed bits `c`. -/
theorem decodeEndpoint_encodeShared {c : Nat} (seed : BitVec 10) (data : BitVec 99)
    (hc : c / 2 ^ 11 % 4 ≠ 0 ∧ c / 2 ^ 13 % 2 ^ 12 = 0 ∧ c < 2 ^ 29) :
    decodeEndpoint (BitVec.ofNat 128 (c + encodeMulti seed data))
      = multiRow (c / 2 ^ 11 % 4) 0 seed (BitVec.ofNat 4 (c / 2 ^ 25)) data := by
  have hw : c + encodeMulti seed data
      = c % 2 ^ 25 + encodeMulti seed data + (BitVec.ofNat 4 (c / 2 ^ 25)).toNat * 2 ^ 25 := by
    rw [BitVec.toNat_ofNat]; omega
  have hp : c % 2 ^ 25 / 2 ^ 11 % 4 = c / 2 ^ 11 % 4 := by omega
  have hsel : c % 2 ^ 25 / 2 ^ 23 = 0 := by omega
  rw [hw, decodeEndpoint_encodeMulti seed _ data (by omega), hp, hsel]

/-! ### The bytes -/

theorem decode_encode_blockMode {i : Instr} (hs : i.space = .blockMode)
    (h : decodeBlockMode (BitVec.ofNat 128 (encodeWord i)) = i) : decode i.space (encode i) = .ok i := by
  simp [encode, hs, h]

theorem decode_encode_endpoint {i : Instr} (hs : i.space = .endpoint)
    (h : decodeEndpoint (BitVec.ofNat 128 (encodeWord i)) = i) : decode i.space (encode i) = .ok i := by
  simp [encode, hs, h]

end Sys2Proof

open Sys2Proof

/-- Settles O1, by the shapes of the rows; the last case is that of the 48 rows with a shared CEM. -/
theorem encodeDecodeRoundTrip : Obligations.EncodeDecodeRoundTrip := by
  intro i hwf
  cases i with
  | nop | decode | isvalid | encVoid | encNormal | genDefault | reserved6 | reserved7 => rfl
  | voidExtent d => exact decode_encode_blockMode rfl (decodeBlockMode_voidExtent d _ _ _ _ _ _ _ _ _)
  | reservedLow4Zero x => exact decode_encode_blockMode rfl (decodeBlockMode_reservedLow4Zero x)
  | reserved111_01 hi lo =>
    exact decode_encode_blockMode rfl (decodeBlockMode_reserved111 (q := 1) hi lo (by decide) (by simp) rfl)
  | reserved111_10 hi lo =>
    exact decode_encode_blockMode rfl (decodeBlockMode_reserved111 (q := 2) hi lo (by decide) (by simp) rfl)
  | reserved111_11_00 hi =>
    exact decode_encode_blockMode rfl (decodeBlockMode_reserved111 (q := 3) hi 0 (by decide) (by decide) rfl)
  | reserved111_11_01 hi =>
    exact decode_encode_blockMode rfl
      (decodeBlockMode_reserved111 (q := 3) hi 1 (by decide) (by decide) (Nat.add_right_comm ..))
  | reserved111_11_10 hi =>
    exact decode_encode_blockMode rfl
      (decodeBlockMode_reserved111 (q := 3) hi 2 (by decide) (by decide) (Nat.add_right_comm ..))
  | modeL0R1 | modeL0R2 | modeL0R3 | modeL1R1 | modeL1R2 | modeL1R3 | modeL2R1 | modeL2R2 | modeL2R3 =>
    simp only [Instr.wellFormed, Bool.and_eq_true, decide_eq_true_eq] at hwf
    obtain ⟨hb, ha⟩ := hwf
    exact decode_encode_blockMode rfl (decodeBlockMode_layouts0to2 _ _ _ hb ha (by decide))
  | modeL3R1 | modeL3R2 | modeL3R3 =>
    simp only [Instr.wellFormed, Bool.and_eq_true, decide_eq_true_eq] at hwf
    obtain ⟨hb, ha⟩ := hwf
    exact decode_encode_blockMode rfl (decodeBlockMode_layout3 _ _ _ hb ha (by decide))
  | modeL4R1 | modeL4R2 | modeL4R3 =>
    simp only [Instr.wellFormed, Bool.and_eq_true, decide_eq_true_eq] at hwf
    obtain ⟨hb, ha⟩ := hwf
    exact decode_encode_blockMode rfl (decodeBlockMode_layout4 _ _ _ hb ha (by decide))
  | modeL5R1 | modeL5R2 | modeL5R3 | modeL6R1 | modeL6R2 | modeL6R3 =>
    exact decode_encode_blockMode rfl (decodeBlockMode_layouts5and6 _ _ _ (of_decide_eq_true hwf) (by decide))
  | modeL7R1 | modeL7R2 | modeL7R3 | modeL8R1 | modeL8R2 | modeL8R3 =>
    exact decode_encode_blockMode rfl (decodeBlockMode_layouts7and8 _ _ _ (by decide))
  | modeL9R1 | modeL9R2 | modeL9R3 =>
    simp only [Instr.wellFormed, Bool.and_eq_true, decide_eq_true_eq] at hwf
    obtain ⟨hb, ha⟩ := hwf
    exact decode_encode_blockMode rfl (decodeBlockMode_layout9 _ hb ha (by decide))
  | cem0LdrLumDirect | cem1LdrLumBaseOffset | cem2HdrLumLarge | cem3HdrLumSmall | cem4LdrLumaDirect
  | cem5LdrLumaBaseOffset | cem6LdrRgbBaseScale | cem7HdrRgbBaseScale | cem8LdrRgbDirect | cem9LdrRgbBaseOffset
  | cem10LdrRgbBaseScale2a | cem11HdrRgbDirect | cem12LdrRgbaDirect | cem13LdrRgbaBaseOffset
  | cem14HdrRgbLdrAlpha | cem15HdrRgbHdrAlpha =>
    exact decode_encode_endpoint rfl (decodeEndpoint_encodeSingle _ (by decide))
  | p2IndepSel1 | p2IndepSel2 | p2IndepSel3 | p3IndepSel1 | p3IndepSel2 | p3IndepSel3 | p4IndepSel1 | p4IndepSel2
  | p4IndepSel3 => exact decode_encode_endpoint rfl (decodeEndpoint_encodeMulti _ _ _ (by decide))
  | _ => exact decode_encode_endpoint rfl (decodeEndpoint_encodeShared _ _ (by decide))

/-- Settles O4, by evaluation. -/
theorem writtenWordsDecode : Obligations.WrittenWordsDecode := by
  unfold Obligations.WrittenWordsDecode
  decide
end

section
/-! The fixed bits of the rows: O2, O3. -/

namespace Sys2Proof

/-! ### A word under the mask of a row -/

/-- The bits `hi..lo` of a word and lower ones under a mask. -/
theorem and_bits_and_lower (w hi lo : Nat) {m : Nat} (h : m < 2 ^ lo) :
    w &&& 2 ^ lo * (2 ^ (hi - lo + 1) - 1) + m = 2 ^ lo * bitsOf w hi lo + (w &&& m) := by
  apply Nat.eq_of_testBit_eq
  intro j
  rw [Nat.testBit_and, Nat.testBit_two_pow_mul_add _ h, Nat.testBit_two_pow_mul_add _ (Nat.and_lt_two_pow w h)]
  by_cases hj : j < lo
  · rw [if_pos hj, if_pos hj, Nat.testBit_and]
  · rw [if_neg hj, if_neg hj, bitsOf, ← Nat.and_two_pow_sub_one_eq_mod, Nat.testBit_and, Nat.testBit_div_two_pow,
      Nat.sub_add_cancel (Nat.not_lt.mp hj)]

section
variable (w : Nat)

theorem and_0xF : w &&& 0xF = bitsOf w 3 0 := by
  simpa [bitsOf] using Nat.and_two_pow_sub_one_eq_mod w 4

theorem and_0x1FF : w &&& 0x1FF = bitsOf w 8 0 := by
  simpa [bitsOf] using Nat.and_two_pow_sub_one_eq_mod w 9

theorem and_0x10F : w &&& 0x10F = 2 ^ 8 * bitsOf w 8 8 + bitsOf w 3 0 :=
  and_0xF w ▸ and_bits_and_lower w 8 8 (m := 0xF) (by decide)

theorem and_0x18F : w &&& 0x18F = 2 ^ 7 * bitsOf w 8 7 + bitsOf w 3 0 :=
  and_0xF w ▸ and_bits_and_lower w 8 7 (m := 0xF) (by decide)

theorem and_0x1CF : w &&& 0x1CF = 2 ^ 6 * bitsOf w 8 6 + bitsOf w 3 0 :=
  and_0xF w ▸ and_bits_and_lower w 8 6 (m := 0xF) (by decide)

theorem and_0x1EF : w &&& 0x1EF = 2 ^ 5 * bitsOf w 8 5 + bitsOf w 3 0 :=
  and_0xF w ▸ and_bits_and_lower w 8 5 (m := 0xF) (by decide)

theorem and_0x1800 : w &&& 0x1800 = 2 ^ 11 * bitsOf w 12 11 := by
  simpa [bitsOf] using and_bits_and_lower w 12 11 (m := 0) (by decide)

theorem and_0x1F800 : w &&& 0x1F800 = 2 ^ 13 * bitsOf w 16 13 + 2 ^ 11 * bitsOf w 12 11 :=
  and_0x1800 w ▸ and_bits_and_lower w 16 13 (m := 0x1800) (by decide)

theorem and_0x1801800 : w &&& 0x1801800 = 2 ^ 23 * bitsOf w 24 23 + 2 ^ 11 * bitsOf w 12 11 :=
  and_0x1800 w ▸ and_bits_and_lower w 24 23 (m := 0x1800) (by decide)

theorem and_0x1F801800 :
    w &&& 0x1F801800 = 2 ^ 25 * bitsOf w 28 25 + (2 ^ 23 * bitsOf w 24 23 + 2 ^ 11 * bitsOf w 12 11) :=
  and_0x1801800 w ▸ and_bits_and_lower w 28 25 (m := 0x1801800) (by decide)

end

/-! ### The row of what the decoder reads -/

/-- The space and the row `(mask, match)` of an instruction. -/
structure Instr.HasRow (i : Instr) (sp : Space) (r : Nat × Nat) : Prop where
  space : i.space = sp
  row : i.row = r

/-- A word has the fixed bits of an instruction of a space. -/
structure Instr.Fits (i : Instr) (sp : Space) (w : Nat) : Prop where
  space : i.space = sp
  bits : w &&& i.row.1 = i.row.2

theorem Instr.HasRow.fits {i : Instr} {sp : Space} {mask bits w : Nat} (h : i.HasRow sp (mask, bits))
    (hw : w &&& mask = bits) : i.Fits sp w :=
  ⟨h.space, by rw [h.row, hw]⟩

section
variable {q : Nat} (hq : q = 1 ∨ q = 2 ∨ q = 3) (d h : Bool) (b a : Nat) (r0 : Bool) (seed : BitVec 10)
  (four : BitVec 4) (data : BitVec 99)
include hq

theorem decodeLayout0_hasRow : (decodeLayout0 q d h b a r0).HasRow .blockMode (0xF, q) := by
  obtain rfl | rfl | rfl := hq <;> exact ⟨rfl, rfl⟩

theorem decodeLayout1_hasRow : (decodeLayout1 q d h b a r0).HasRow .blockMode (0xF, 4 + q) := by
  obtain rfl | rfl | rfl := hq <;> exact ⟨rfl, rfl⟩

theorem decodeLayout2_hasRow : (decodeLayout2 q d h b a r0).HasRow .blockMode (0xF, 8 + q) := by
  obtain rfl | rfl | rfl := hq <;> exact ⟨rfl, rfl⟩

theorem decodeLayout3_hasRow : (decodeLayout3 q d h b a r0).HasRow .blockMode (0x10F, 0xC + q) := by
  obtain rfl | rfl | rfl := hq <;> exact ⟨rfl, rfl⟩

theorem decodeLayout4_hasRow : (decodeLayout4 q d h b a r0).HasRow .blockMode (0x10F, 0x10C + q) := by
  obtain rfl | rfl | rfl := hq <;> exact ⟨rfl, rfl⟩

theorem decodeLayout5_hasRow : (decodeLayout5 q d h a r0).HasRow .blockMode (0x18F, 4 * q) := by
  obtain rfl | rfl | rfl := hq <;> exact ⟨rfl, rfl⟩

theorem decodeLayout6_hasRow : (decodeLayout6 q d h a r0).HasRow .blockMode (0x18F, 0x80 + 4 * q) := by
  obtain rfl | rfl | rfl := hq <;> exact ⟨rfl, rfl⟩

theorem decodeLayout7_hasRow : (decodeLayout7 q d h r0).HasRow .blockMode (0x1EF, 0x180 + 4 * q) := by
  obtain rfl | rfl | rfl := hq <;> exact ⟨rfl, rfl⟩

theorem decodeLayout8_hasRow : (decodeLayout8 q d h r0).HasRow .blockMode (0x1EF, 0x1A0 + 4 * q) := by
  obtain rfl | rfl | rfl := hq <;> exact ⟨rfl, rfl⟩

theorem decodeLayout9_hasRow : (decodeLayout9 q b a r0).HasRow .blockMode (0x18F, 0x100 + 4 * q) := by
  obtain rfl | rfl | rfl := hq <;> exact ⟨rfl, rfl⟩

theorem multiRow_shared_hasRow :
    (multiRow q 0 seed four data).HasRow .endpoint (0x1F801800, 2 ^ 25 * four.toNat + 2 ^ 11 * q) := by
  have hf := four.isLt
  unfold multiRow
  generalize four.toNat = cem at hf
  obtain rfl | rfl | rfl := hq <;> interval_cases cem <;> exact ⟨rfl, rfl⟩

theorem multiRow_indep_hasRow {sel : Nat} (hs : sel = 1 ∨ sel = 2 ∨ sel = 3) :
    (multiRow q sel seed four data).HasRow .endpoint (0x1801800, 2 ^ 23 * sel + 2 ^ 11 * q) := by
  obtain rfl | rfl | rfl := hq <;> obtain rfl | rfl | rfl := hs <;> exact ⟨rfl, rfl⟩

end

theorem decodeCemSingle_hasRow {cem : Nat} (hc : cem < 16) (data : BitVec 111) :
    (decodeCemSingle cem data).HasRow .endpoint (0x1F800, 2 ^ 13 * cem) := by
  interval_cases cem <;> exact ⟨rfl, rfl⟩

/-! ### The rows of a space -/

/-- The rows of a space (R71 to R77, R90): those of a block mode by `r2 r1`, those of the partition and CEM fields by
`P`, `SEL` and the shared CEM. -/
def spaceRows (sp : Space) : List (Nat × Nat) :=
  match sp with
  | .command => (List.range 8).map fun c => (0x7, c)
  | .blockMode =>
    [(0x1FF, 0x1FC), (0xF, 0), (0x1CF, 0x1C4), (0x1CF, 0x1C8), (0x1FF, 0x1CC), (0x1FF, 0x1DC), (0x1FF, 0x1EC)]
      ++ [1, 2, 3].flatMap fun q =>
        [(0xF, q), (0xF, 4 + q), (0xF, 8 + q), (0x10F, 0xC + q), (0x10F, 0x10C + q), (0x18F, 4 * q),
          (0x18F, 0x80 + 4 * q), (0x1EF, 0x180 + 4 * q), (0x1EF, 0x1A0 + 4 * q), (0x18F, 0x100 + 4 * q)]
  | .endpoint =>
    ((List.range 16).map fun cem => (0x1F800, 2 ^ 13 * cem))
      ++ [1, 2, 3].flatMap fun p =>
        ((List.range 16).map fun cem => (0x1F801800, 2 ^ 25 * cem + 2 ^ 11 * p))
          ++ [1, 2, 3].map fun sel => (0x1801800, 2 ^ 23 * sel + 2 ^ 11 * p)

theorem row_mem_spaceRows (i : Instr) : i.row ∈ spaceRows i.space := by
  cases i <;> exact of_decide_eq_true rfl

/-- Bits 10:0 hold all the fixed bits of a block-mode row. -/
theorem blockModeRow_mask_lt (r : Nat × Nat) (hr : r ∈ spaceRows .blockMode) : r.1 < 2 ^ 11 := by
  revert r
  decide

/-! ### A block has the fixed bits of what is read from it -/

/-- The values of a field of two bits. -/
theorem bitsOf_two_cases (w hi lo : Nat) (h : hi = lo + 1 := by rfl) :
    bitsOf w hi lo = 0 ∨ bitsOf w hi lo = 1 ∨ bitsOf w hi lo = 2 ∨ bitsOf w hi lo = 3 := by
  have hlt : bitsOf w hi lo < 2 ^ (hi - lo + 1) := bitsOf_lt w hi lo
  rw [show hi - lo + 1 = 2 by omega] at hlt
  omega

theorem decodeEndpoint_fits (blk : Block) : (decodeEndpoint blk).Fits .endpoint blk.toNat := by
  obtain hp | hp := bitsOf_two_cases blk.toNat 12 11
  · rw [decodeEndpoint_single hp]
    exact (decodeCemSingle_hasRow (bitsOf_lt _ _ _) _).fits (by rw [and_0x1F800, hp, Nat.mul_zero, Nat.add_zero])
  rw [decodeEndpoint_multi (by omega)]
  obtain hs | hs := bitsOf_two_cases blk.toNat 24 23
  · have hf : (BitVec.ofNat 4 (bitsOf blk.toNat 28 25)).toNat = bitsOf blk.toNat 28 25 :=
      Nat.mod_eq_of_lt (bitsOf_lt _ _ _)
    rw [hs]
    exact (multiRow_shared_hasRow hp _ _ _).fits (by rw [and_0x1F801800, hs, hf, Nat.mul_zero, Nat.zero_add])
  · exact (multiRow_indep_hasRow hp _ _ _ hs).fits (and_0x1801800 _)

section
variable {m : Nat}

theorem decodeModeLow_fits (h10 : bitsOf m 1 0 ≠ 0) : (decodeModeLow m).Fits .blockMode m := by
  have hq := (bitsOf_two_cases m 1 0).resolve_left h10
  unfold decodeModeLow
  obtain h32 | h32 | h32 | h32 := bitsOf_two_cases m 3 2
  all_goals simp only [h32]
  · exact (decodeLayout0_hasRow hq ..).fits (by rw [and_0xF]; unfold bitsOf at *; omega)
  · exact (decodeLayout1_hasRow hq ..).fits (by rw [and_0xF]; unfold bitsOf at *; omega)
  · exact (decodeLayout2_hasRow hq ..).fits (by rw [and_0xF]; unfold bitsOf at *; omega)
  · split
    all_goals
      rename_i h8
      rw [bitAt_iff] at h8
    · exact (decodeLayout4_hasRow hq ..).fits (by rw [and_0x10F]; unfold bitsOf at *; omega)
    · exact (decodeLayout3_hasRow hq ..).fits (by rw [and_0x10F]; unfold bitsOf at *; omega)

theorem decodeModeHigh_fits (h10 : bitsOf m 1 0 = 0) (h30 : bitsOf m 3 0 ≠ 0) (h86 : bitsOf m 8 6 ≠ 7) :
    (decodeModeHigh m).Fits .blockMode m := by
  have hq := (bitsOf_two_cases m 3 2).resolve_left (by unfold bitsOf at *; omega)
  unfold decodeModeHigh
  obtain h87 | h87 | h87 | h87 := bitsOf_two_cases m 8 7
  all_goals simp only [h87]
  · exact (decodeLayout5_hasRow hq ..).fits (by rw [and_0x18F]; unfold bitsOf at *; omega)
  · exact (decodeLayout6_hasRow hq ..).fits (by rw [and_0x18F]; unfold bitsOf at *; omega)
  · exact (decodeLayout9_hasRow hq ..).fits (by rw [and_0x18F]; unfold bitsOf at *; omega)
  · split
    all_goals
      rename_i h5
      rw [bitAt_iff] at h5
    · exact (decodeLayout8_hasRow hq ..).fits (by rw [and_0x1EF]; unfold bitsOf at *; omega)
    · exact (decodeLayout7_hasRow hq ..).fits (by rw [and_0x1EF]; unfold bitsOf at *; omega)

theorem decodeReserved111_fits (h10 : bitsOf m 1 0 = 0) (h30 : bitsOf m 3 0 ≠ 0) (h86 : bitsOf m 8 6 = 7)
    (hv : bitsOf m 8 0 ≠ 0x1FC) : (decodeReserved111 m).Fits .blockMode m := by
  unfold decodeReserved111
  obtain h32 | h32 | h32 | h32 := bitsOf_two_cases m 3 2
  · unfold bitsOf at *
    omega
  · simp only [h32]
    exact Instr.HasRow.fits ⟨rfl, rfl⟩ (by rw [and_0x1CF]; unfold bitsOf at *; omega)
  · simp only [h32]
    exact Instr.HasRow.fits ⟨rfl, rfl⟩ (by rw [and_0x1CF]; unfold bitsOf at *; omega)
  · obtain h54 | h54 | h54 | h54 := bitsOf_two_cases m 5 4
    all_goals simp only [h32, h54]
    · exact Instr.HasRow.fits ⟨rfl, rfl⟩ (by rw [and_0x1FF]; unfold bitsOf at *; omega)
    · exact Instr.HasRow.fits ⟨rfl, rfl⟩ (by rw [and_0x1FF]; unfold bitsOf at *; omega)
    · exact Instr.HasRow.fits ⟨rfl, rfl⟩ (by rw [and_0x1FF]; unfold bitsOf at *; omega)
    · unfold bitsOf at *
      omega

theorem decodeModeRow_fits (hv : bitsOf m 8 0 ≠ 0x1FC) : (decodeModeRow m).Fits .blockMode m := by
  unfold decodeModeRow
  by_cases h30 : bitsOf m 3 0 = 0
  · rw [if_pos h30]
    exact Instr.HasRow.fits ⟨rfl, rfl⟩ (by rw [and_0xF]; unfold bitsOf at *; omega)
  rw [if_neg h30]
  by_cases h10 : bitsOf m 1 0 = 0
  · by_cases h86 : bitsOf m 8 6 = 7
    · rw [if_pos ⟨h10, h86⟩]
      exact decodeReserved111_fits h10 h30 h86 hv
    · rw [if_neg (fun h => h86 h.2), if_neg (fun h => h h10)]
      exact decodeModeHigh_fits h10 h30 h86
  · rw [if_neg (fun h => h10 h.1), if_pos h10]
    exact decodeModeLow_fits h10

end

/-- A block-mode row looks at bits 10:0 only. -/
theorem Instr.Fits.of_low {i : Instr} {w : Nat} (h : i.Fits .blockMode (bitsOf w 10 0)) : i.Fits .blockMode w := by
  have hmask := blockModeRow_mask_lt i.row (h.space ▸ row_mem_spaceRows i)
  refine ⟨h.space, ?_⟩
  rw [← h.bits, bitsOf, Nat.pow_zero, Nat.div_one]
  conv_rhs => rw [← Nat.mod_eq_of_lt hmask, ← Nat.and_mod_two_pow]
  rw [Nat.mod_eq_of_lt (Nat.and_lt_two_pow w hmask)]

theorem decodeBlockMode_fits (blk : Block) : (decodeBlockMode blk).Fits .blockMode blk.toNat := by
  unfold decodeBlockMode
  split
  · exact Instr.HasRow.fits ⟨rfl, rfl⟩ ((and_0x1FF _).trans ‹_›)
  · exact (decodeModeRow_fits (by unfold bitsOf at *; omega)).of_low

/-! ### No two rows of a space overlap -/

/-- Two rows of a space that agree on the bits both of them fix are one row. -/
theorem spaceRows_disjoint (sp : Space) :
    ∀ r ∈ spaceRows sp, ∀ r' ∈ spaceRows sp, r.2 &&& r'.1 = r'.2 &&& r.1 → r = r' := by
  cases sp with
  | command => decide +kernel
  | blockMode => decide +kernel
  | endpoint => decide +kernel

theorem Instr.Fits.row_unique {i j : Instr} {sp : Space} {w : Nat} (hi : i.Fits sp w) (hj : j.Fits sp w) :
    i.row = j.row := by
  have hagree : i.row.2 &&& j.row.1 = j.row.2 &&& i.row.1 := by
    rw [← hi.bits, ← hj.bits, Nat.and_assoc, Nat.and_assoc, Nat.and_comm i.row.1]
  exact spaceRows_disjoint sp _ (hi.space ▸ row_mem_spaceRows i) _ (hj.space ▸ row_mem_spaceRows j) hagree

end Sys2Proof

open Sys2Proof

/-- Settles O2: both decoders take the branch whose fixed bits the block has. -/
theorem everyBlockMatchesItsRow : Obligations.EveryBlockMatchesItsRow := by
  intro blk
  have hm := decodeBlockMode_fits blk
  have he := decodeEndpoint_fits blk
  exact ⟨hm.space, he.space, hm.bits, he.bits⟩

/-- Settles O3: the block has the fixed bits of the decoded row (O2) too, and two such rows are one. -/
theorem rowsDoNotOverlap : Obligations.RowsDoNotOverlap := by
  intro blk i hw
  exact ⟨fun hs => (decodeBlockMode_fits blk).row_unique ⟨hs, hw⟩,
    fun hs => (decodeEndpoint_fits blk).row_unique ⟨hs, hw⟩⟩
end

section
/-! Commands without operands and accepted block modes: O46, O21, O22, O9. -/

namespace Sys2Proof.Machine

theorem acceptMode_of_modeFits {bm : BlockModeInfo} {s : State} (h : modeFits s.cfg bm = true) :
    acceptMode bm s = .next { s with phase := .endpoint, bm := bm } := by
  simp only [modeFits, Bool.and_eq_true, decide_eq_true_eq] at h
  obtain ⟨⟨⟨⟨hc, hlo⟩, hhi⟩, hw⟩, hh⟩ := h
  obtain ⟨hbad, -⟩ | ⟨-, hbad, -⟩ | ⟨-, -, -, hbad, -⟩ | ⟨-, -, -, -, -, e⟩ := acceptMode_cases bm s
  · omega
  · omega
  · omega
  · exact e

/-! ### The grid rows by name, as `acceptMode` of their mode -/

theorem exec_gridRowsBA {row} (hrow : row ∈ gridRowsBA) (d h : Bool) (b a : Nat) (r0 : Bool) (s : State) :
    exec (row.2.2 d h b a r0) s
      = acceptMode (gridMode (row.1 b a).1 (row.1 b a).2 (2 * row.2.1 + r0.toNat) d h) s := by
  fin_cases hrow <;> rfl

theorem exec_gridRowsA {row} (hrow : row ∈ gridRowsA) (d h : Bool) (a : Nat) (r0 : Bool) (s : State) :
    exec (row.2.2 d h a r0) s = acceptMode (gridMode (row.1 a).1 (row.1 a).2 (2 * row.2.1 + r0.toNat) d h) s := by
  fin_cases hrow <;> rfl

theorem exec_gridRowsConst {row} (hrow : row ∈ gridRowsConst) (d h r0 : Bool) (s : State) :
    exec (row.2.2 d h r0) s = acceptMode (gridMode row.1.1 row.1.2 (2 * row.2.1 + r0.toNat) d h) s := by
  fin_cases hrow <;> rfl

theorem exec_gridRowsWide {row} (hrow : row ∈ gridRowsWide) (b a : Nat) (r0 : Bool) (s : State) :
    exec (row.2.2 b a r0) s
      = acceptMode (gridMode (row.1 b a).1 (row.1 b a).2 (2 * row.2.1 + r0.toNat) false false) s := by
  fin_cases hrow <;> rfl

end Sys2Proof.Machine

open Sys2Proof Sys2Proof.Machine

/-- Settles O46, by the effect that every instruction has. -/
theorem everyInstructionGoesOn : Obligations.EveryInstructionGoesOn := by
  intro i s
  obtain ⟨t, ht, -⟩ := exec_hasEffect i s
  exact ⟨t, ht⟩

/-- Settles O21: `NOP` is the end of a command with no cause. -/
theorem nopCompletes : Obligations.NopCompletes := by
  intro s
  exact ⟨endCommand .none false s, succeed_eq s, rfl, by simp [Cause.code]⟩

/-- Settles O22: both commands are refused. -/
theorem reservedCommandsRefused : Obligations.ReservedCommandsRefused := by
  intro s i hi
  have he : exec i s = refuse .cfgInvalid s := by
    obtain rfl | rfl := List.mem_pair.mp hi <;> rfl
  exact ⟨endCommand .cfgInvalid true s, he.trans (refuse_eq _ s), rfl, by simp [Cause.code]⟩

/-- Settles O9: every row is `acceptMode` of its mode, and the mode passes the checks. -/
theorem gridRowsAccepted : Obligations.GridRowsAccepted := by
  refine ⟨?_, ?_, ?_, ?_⟩
  · intro row hrow d h b a r0 s bm hfit
    exact (exec_gridRowsBA hrow ..).trans (acceptMode_of_modeFits hfit)
  · intro row hrow d h a r0 s bm hfit
    exact (exec_gridRowsA hrow ..).trans (acceptMode_of_modeFits hfit)
  · intro row hrow d h r0 s bm hfit
    exact (exec_gridRowsConst hrow ..).trans (acceptMode_of_modeFits hfit)
  · intro row hrow b a r0 s bm hfit
    exact (exec_gridRowsWide hrow ..).trans (acceptMode_of_modeFits hfit)
end

section
/-! The texels of a decode, and the rows of normal blocks that pass their checks: O14, O15, O16. -/

namespace Sys2Proof.Machine

/-! ### Texels in index order -/

/-- An entry of a list made of pieces of one length. -/
theorem getElem?_flatMap_of_length {α β : Type} {f : α → List β} {w : Nat} (hf : ∀ x, (f x).length = w) {xs : List α}
    {i k : Nat} {x : α} (hi : xs[i]? = some x) (hk : k < w) : (xs.flatMap f)[w * i + k]? = (f x)[k]? := by
  induction xs generalizing i with
  | nil => simp at hi
  | cons y ys ih =>
    rw [List.flatMap_cons]
    cases i with
    | zero =>
      obtain rfl : y = x := by simpa using hi
      rw [Nat.mul_zero, Nat.zero_add, List.getElem?_append_left (by rwa [hf])]
    | succ i =>
      rw [show w * (i + 1) + k = (f y).length + (w * i + k) by rw [hf, Nat.mul_succ]; omega,
        List.getElem?_append_right (Nat.le_add_right _ _), Nat.add_sub_cancel_left]
      exact ih (by simpa using hi)

theorem getElem?_texelCoords {bw bh tx ty : Nat} (hx : tx < bw) (hy : ty < bh) :
    (texelCoords bw bh)[ty * bw + tx]? = some (tx, ty) := by
  have hrow : (List.range bh)[ty]? = some ty := List.getElem?_range hy
  rw [texelCoords, Nat.mul_comm, getElem?_flatMap_of_length (by simp) hrow hx]
  simp [hx]

theorem getElem?_normalTexels (nv : NormalValues) (fs : List (List Nat → EndpointPair)) (blk : Nat)
    (bm : BlockModeInfo) {cfg : BitVec 6} {tx ty : Nat} (hx : tx < blockW cfg) (hy : ty < blockH cfg) :
    (normalTexels nv fs blk bm cfg)[ty * blockW cfg + tx]? = some (texelOf nv fs blk bm cfg tx ty) := by
  rw [normalTexels, List.getElem?_map, getElem?_texelCoords hx hy]
  rfl

/-- A texel stored is a texel held. -/
theorem holdsTexel_storeTexels {ts : List Rgba} {s : State} {i : Nat} {t : Rgba} (hw : writesTx s = true)
    (hi : ts[i]? = some t) : (storeTexels ts s).holdsTexel s.cfg i t := by
  intro k hk
  have hread : (texelsBytes (cfgSrgb s.cfg) ts)[texelWidth s.cfg * i + k]? = (texelBytes (cfgSrgb s.cfg) t)[k]? :=
    getElem?_flatMap_of_length (texelBytes_length _) hi hk
  have hsome : k < (texelBytes (cfgSrgb s.cfg) t).length := by rwa [texelBytes_length]
  have hin : texelWidth s.cfg * i + k < (texelsBytes (cfgSrgb s.cfg) ts).length :=
    (List.getElem?_eq_some_iff.mp (hread.trans (List.getElem?_eq_getElem hsome))).1
  rw [storeTexels_read, if_pos ⟨hw, hin⟩, hread]

/-! ### The end of a decode -/

theorem endedAs_storeTexels (ts : List Rgba) (c : Cause) (f : Bool) (s : State) :
    endedAs s (endCommand c f (storeTexels ts s)) c f := by
  refine ⟨?_, by simp⟩
  unfold storeTexels
  split <;> rfl

/-- A decode that finishes with a texel for each place of the footprint. -/
theorem finish_decodedAs {ts : List Rgba} {s : State} {texel : Nat → Nat → Rgba} (c : Cause)
    (hl : ts.length = texelCount s.cfg)
    (hts : ∀ tx < blockW s.cfg, ∀ ty < blockH s.cfg, ts[ty * blockW s.cfg + tx]? = some (texel tx ty)) :
    ∃ t, finish ts c s = .next t ∧ decodedAs s t c (decide (c = .veInfNan)) texel := by
  refine ⟨_, finish_eq ts c s, endedAs_storeTexels ts c _ s, ?_⟩
  by_cases hw : writesTx s = true
  · rw [if_pos hw]
    exact ⟨fun tx hx ty hy => holdsTexel_storeTexels hw (hts tx hx ty hy), keepsTxBeyond_storeTexels hl⟩
  · rw [if_neg hw, endCommand_tx, storeTexels, if_neg hw]

/-- A normal block that passes the checks of R309 to R311 decodes to its texels. -/
theorem assembleBlock_decodedAs {nv : NormalValues} {s : State} (fs : List (List Nat → EndpointPair)) (blk : Nat)
    (hd : ¬ (nv.nparts = 4 ∧ s.bm.isDualPlane = true)) (hv : nv.ncev ≤ 18)
    (hc : (ceilDiv (13 * nv.ncev) 5 : Nat) ≤ nv.ncb) :
    ∃ t, assembleBlock nv fs blk s = .next t
      ∧ decodedAs s t (normalCause nv s.cfg) false (texelOf nv fs blk s.bm s.cfg) := by
  have hf : decide (normalCause nv s.cfg = .veInfNan) = false := by
    obtain h | h := normalCause_cases nv s.cfg <;> rw [h] <;> rfl
  rw [assembleBlock, if_neg hd, if_neg (by omega), if_neg (by omega), ← hf]
  exact finish_decodedAs _ (normalTexels_length nv fs blk s.bm s.cfg)
    fun tx hx ty hy => getElem?_normalTexels nv fs blk s.bm hx hy

/-! ### The rows by name -/

theorem exec_singleRows {row} (hrow : row ∈ singleRows) (data : BitVec 111) (s : State) :
    exec (row.2.2 data) s = singlePartition row.1 row.2.1 data s := by
  fin_cases hrow <;> rfl

theorem exec_sharedRows {row} (hrow : row ∈ sharedRows) (seed : BitVec 10) (data : BitVec 99) (s : State) :
    exec (row.2.2.2 seed data) s = sharedPartitions row.1 row.2.1 row.2.2.1 seed data s := by
  fin_cases hrow <;> rfl

theorem exec_independentRows {row} (hrow : row ∈ independentRows) (seed : BitVec 10) (str4 : BitVec 4)
    (data : BitVec 99) (s : State) :
    exec (row.2.2 seed str4 data) s = independentPartitions row.1 row.2.1 seed str4 data s := by
  fin_cases hrow <;> rfl

theorem singleRows_values_le : ∀ row ∈ singleRows, cemNumValues row.1 ≤ 18 := by decide

theorem sharedRows_values_le : ∀ row ∈ sharedRows, row.1 * cemNumValues row.2.1 ≤ 18 := by decide

theorem independentRows_fields :
    ∀ row ∈ independentRows, (1 < row.1 ∧ row.1 ≤ 4) ∧ 0 < row.2.1 ∧ row.2.1 < 4 := by decide

theorem cemsValueCount_replicate (n cem : Nat) : cemsValueCount (List.replicate n cem) = n * cemNumValues cem := by
  simp [cemsValueCount]

/-- `SEL` read back from the bits of a block with independent CEMs (R192, R194). -/
theorem decodeCems_independentBits {n sel : Nat} (hn : 1 < n ∧ n ≤ 4) (hs : 0 < sel ∧ sel < 4) (seed : BitVec 10)
    (str4 : BitVec 4) (data : BitVec 99) (extra : Nat) :
    decodeCems (independentBits n sel seed str4 data) n extra
      = (List.range n).map (independentCem (independentBits n sel seed str4 data) n sel extra) := by
  have hsel : getBits (independentBits n sel seed str4 data) 23 24 = sel := by
    unfold independentBits getBits
    omega
  rw [decodeCems, if_neg (by omega), hsel, if_neg (by omega)]

theorem independentPartitions_eq {n sel : Nat} (hn : 1 < n ∧ n ≤ 4) (hs : 0 < sel ∧ sel < 4) (seed : BitVec 10)
    (str4 : BitVec 4) (data : BitVec 99) (s : State) :
    let blk := independentBits n sel seed str4 data
    let cems := (List.range n).map (independentCem blk n sel (extraPos n false (weightBits s.bm)))
    independentPartitions n sel seed str4 data s
      = assembleBlock (normalValues s.bm n false cems blk) (cems.map endpointFormula) blk s := by
  intro blk cems
  have hcems : decodeCems blk n (extraPos n false (weightBits s.bm)) = cems :=
    decodeCems_independentBits hn hs seed str4 data _
  rw [← hcems]
  rfl

end Sys2Proof.Machine

open Sys2Proof Sys2Proof.Machine

/-- Settles O14: a one-partition row has at most 8 values and cannot have four partitions. -/
theorem singlePartitionRowsDecode : Obligations.SinglePartitionRowsDecode := by
  intro row hrow data s blk nv hfit
  have hn : nv.ncev = cemNumValues row.1 := (cemsValueCount_replicate 1 row.1).trans (Nat.one_mul _)
  have hone : nv.nparts ≠ 4 := show 1 ≠ 4 by decide
  rw [exec_singleRows hrow]
  exact assembleBlock_decodedAs _ blk (fun h => hone h.1) (hn ▸ singleRows_values_le row hrow) (hn ▸ hfit)

/-- Settles O15: the values of the row, the same number for each partition, are at most 18. -/
theorem sharedCemRowsDecode : Obligations.SharedCemRowsDecode := by
  intro row hrow seed data s n blk nv hdual hfit
  have hn : nv.ncev = n * cemNumValues row.2.1 := cemsValueCount_replicate n row.2.1
  rw [exec_sharedRows hrow]
  exact assembleBlock_decodedAs _ blk hdual (hn ▸ sharedRows_values_le row hrow) (hn ▸ hfit)

/-- Settles O16: the CEMs that the row finds are those of R194 for its `SEL`. -/
theorem independentCemRowsDecode : Obligations.IndependentCemRowsDecode := by
  intro row hrow seed str4 data s n blk cems nv _ hdual hcount hfit
  obtain ⟨hn, hs⟩ := independentRows_fields row hrow
  rw [exec_independentRows hrow, independentPartitions_eq hn hs]
  exact assembleBlock_decodedAs _ blk hdual hcount hfit
end

section
/-! The bit cursors: what a range write, a read and a write of a cursor do to each bit: O32, O33, O34. -/

namespace Sys2Proof.Machine

/-! ### Bits of a range and of a reversed value -/

theorem testBit_getBits (v low high j : Nat) :
    (getBits v low high).testBit j = (decide (j < high - low + 1) && v.testBit (low + j)) := by
  rw [getBits, Nat.testBit_mod_two_pow, Nat.testBit_div_two_pow, Nat.add_comm j low]

theorem reverseBits_lt (x k : Nat) : reverseBits x k < 2 ^ k := by
  induction k generalizing x with
  | zero => exact Nat.one_pos
  | succ k ih =>
    have htop : x % 2 * 2 ^ k ≤ 1 * 2 ^ k := Nat.mul_le_mul_right _ (by omega)
    rw [reverseBits, Nat.pow_succ]
    have := ih (x / 2)
    omega

theorem testBit_reverseBits (x k j : Nat) :
    (reverseBits x k).testBit j = (decide (j < k) && x.testBit (k - 1 - j)) := by
  induction k generalizing x with
  | zero => simp [reverseBits]
  | succ k ih =>
    rw [reverseBits, Nat.mul_comm, Nat.testBit_two_pow_mul_add _ (reverseBits_lt _ _)]
    by_cases hjk : j < k
    · rw [if_pos hjk, ih, Nat.testBit_div_two, show k - 1 - j + 1 = k + 1 - 1 - j by omega]
      simp [hjk, Nat.lt_succ_of_lt hjk]
    · rw [if_neg hjk, show k + 1 - 1 - j = 0 by omega, ← pow_one 2, Nat.testBit_mod_two_pow]
      by_cases hj : j = k
      · simp [hj]
      · simp [show ¬ j < k + 1 by omega, show ¬ j - k < 1 by omega]

section
variable {cur : Cursor} {n j : Nat}

/-! ### The bits that a cursor finds, and where they stand -/

/-- Where bit `j` of the next value stands in the block (R104, R105). -/
def Cursor.bitPos (cur : Cursor) (j : Nat) : Nat :=
  if cur.forward then cur.start + cur.ndx + j else cur.start - cur.ndx - j

theorem Cursor.bitPos_forward (hf : cur.forward = true) : cur.bitPos j = cur.start + cur.ndx + j := if_pos hf

theorem Cursor.bitPos_reverse (hf : cur.forward = false) : cur.bitPos j = cur.start - cur.ndx - j :=
  if_neg (by simp [hf])

theorem Cursor.lt_avail_iff : j < cur.avail n ↔ j < n ∧ cur.ndx + j < cur.length := by
  rw [Cursor.avail]
  omega

theorem Cursor.avail_pos_iff : 0 < cur.avail n ↔ ¬ (n = 0 ∨ cur.length ≤ cur.ndx) := by
  rw [Cursor.lt_avail_iff]
  omega

/-- The last bit that a cursor finds is inside its stream. -/
theorem Cursor.ndx_add_avail_le (h : 0 < cur.avail n) : cur.ndx + cur.avail n ≤ cur.length := by
  rw [Cursor.avail] at *
  omega

/-! ### Reading -/

theorem Cursor.value_of_avail_eq_zero (blk : Nat) (h : cur.avail n = 0) : cur.value blk n = 0 :=
  if_pos (not_not.mp (mt Cursor.avail_pos_iff.mpr h.not_gt))

theorem Cursor.value_forward (blk : Nat) (hf : cur.forward = true) (h : 0 < cur.avail n) :
    cur.value blk n = getBits blk (cur.start + cur.ndx) (cur.start + cur.ndx + cur.avail n - 1) := by
  rw [Cursor.value, if_neg (Cursor.avail_pos_iff.mp h), if_pos hf]

theorem Cursor.value_reverse (blk : Nat) (hf : cur.forward = false) (h : 0 < cur.avail n) :
    cur.value blk n = reverseBits
      (getBits blk (cur.start - cur.ndx + 1 - cur.avail n) (cur.start - cur.ndx)) (cur.avail n) := by
  rw [Cursor.value, if_neg (Cursor.avail_pos_iff.mp h), if_neg (by simp [hf])]

/-- R104 to R106: bit by bit, a read takes what the stream has and fills up with zeros. -/
theorem Cursor.testBit_value (blk : Nat) (hr : cur.forward = false → cur.length ≤ cur.start + 1) :
    (cur.value blk n).testBit j = (decide (j < cur.avail n) && blk.testBit (cur.bitPos j)) := by
  rcases Nat.eq_zero_or_pos (cur.avail n) with h0 | h
  · simp [Cursor.value_of_avail_eq_zero blk h0, h0]
  have hend := Cursor.ndx_add_avail_le h
  cases hf : cur.forward
  case true =>
    rw [Cursor.value_forward blk hf h, testBit_getBits, Cursor.bitPos_forward hf,
      show cur.start + cur.ndx + cur.avail n - 1 - (cur.start + cur.ndx) + 1 = cur.avail n by omega]
  case false =>
    have hlen := hr hf
    rw [Cursor.value_reverse blk hf h, testBit_reverseBits]
    by_cases hj : j < cur.avail n
    · rw [testBit_getBits, Cursor.bitPos_reverse hf,
        show cur.start - cur.ndx + 1 - cur.avail n + (cur.avail n - 1 - j) = cur.start - cur.ndx - j by omega,
        decide_eq_true (show cur.avail n - 1 - j
          < cur.start - cur.ndx - (cur.start - cur.ndx + 1 - cur.avail n) + 1 by omega), Bool.true_and]
    · simp [hj]

/-! ### Writing -/

theorem Cursor.put_of_avail_eq_zero (buf : Block) (x : Nat) (h : cur.avail n = 0) : cur.put buf n x = buf :=
  if_pos (not_not.mp (mt Cursor.avail_pos_iff.mpr h.not_gt))

theorem Cursor.put_forward (buf : Block) (x : Nat) (hf : cur.forward = true) (h : 0 < cur.avail n) :
    cur.put buf n x = setBits buf (cur.start + cur.ndx) (cur.start + cur.ndx + cur.avail n - 1)
      (x % 2 ^ cur.avail n) := by
  rw [Cursor.put, if_neg (Cursor.avail_pos_iff.mp h), if_pos hf]

theorem Cursor.put_reverse (buf : Block) (x : Nat) (hf : cur.forward = false) (h : 0 < cur.avail n) :
    cur.put buf n x = setBits buf (cur.start - cur.ndx + 1 - cur.avail n) (cur.start - cur.ndx)
      (reverseBits (x % 2 ^ cur.avail n) (cur.avail n)) := by
  rw [Cursor.put, if_neg (Cursor.avail_pos_iff.mp h), if_neg (by simp [hf])]

/-- R110: a bit that fits stands where a read of the same cursor finds it. -/
theorem Cursor.getLsbD_put_bitPos (buf : Block) (x : Nat) (hfwd : cur.forward = true → cur.start + cur.length ≤ 128)
    (hrev : cur.forward = false → cur.length ≤ cur.start + 1 ∧ cur.start ≤ 127) (hj : j < cur.avail n) :
    (cur.put buf n x).getLsbD (cur.bitPos j) = x.testBit j := by
  have h := Nat.zero_lt_of_lt hj
  have hend := Cursor.ndx_add_avail_le h
  cases hf : cur.forward
  case true =>
    have hblk := hfwd hf
    rw [Cursor.put_forward buf x hf h, Cursor.bitPos_forward hf, getLsbD_setBits _ _ (by omega) (by omega),
      if_pos (by omega), Nat.add_sub_cancel_left, Nat.testBit_mod_two_pow, decide_eq_true hj, Bool.true_and]
  case false =>
    obtain ⟨hlen, hblk⟩ := hrev hf
    rw [Cursor.put_reverse buf x hf h, Cursor.bitPos_reverse hf, getLsbD_setBits _ _ (by omega) (by omega),
      if_pos (by omega), testBit_reverseBits, Nat.testBit_mod_two_pow,
      show cur.avail n - 1 - (cur.start - cur.ndx - j - (cur.start - cur.ndx + 1 - cur.avail n)) = j by omega,
      decide_eq_true hj, decide_eq_true (by omega), Bool.true_and, Bool.true_and]

/-- R110 with R109: a write leaves every other bit of the block as it was. -/
theorem Cursor.getLsbD_put_of_ne {i : Nat} (buf : Block) (x : Nat)
    (hfwd : cur.forward = true → cur.start + cur.length ≤ 128)
    (hrev : cur.forward = false → cur.length ≤ cur.start + 1 ∧ cur.start ≤ 127)
    (hi : ∀ j < cur.avail n, i ≠ cur.bitPos j) : (cur.put buf n x).getLsbD i = buf.getLsbD i := by
  rcases Nat.eq_zero_or_pos (cur.avail n) with h0 | h
  · rw [Cursor.put_of_avail_eq_zero buf x h0]
  have hend := Cursor.ndx_add_avail_le h
  cases hf : cur.forward
  case true =>
    have hblk := hfwd hf
    have hout : ¬ (cur.start + cur.ndx ≤ i ∧ i ≤ cur.start + cur.ndx + cur.avail n - 1) := fun hin =>
      hi (i - (cur.start + cur.ndx)) (by omega) (by rw [Cursor.bitPos_forward hf]; omega)
    rw [Cursor.put_forward buf x hf h, getLsbD_setBits _ _ (by omega) (by omega), if_neg hout]
  case false =>
    obtain ⟨hlen, hblk⟩ := hrev hf
    have hout : ¬ (cur.start - cur.ndx + 1 - cur.avail n ≤ i ∧ i ≤ cur.start - cur.ndx) := fun hin =>
      hi (cur.start - cur.ndx - i) (by omega) (by rw [Cursor.bitPos_reverse hf]; omega)
    rw [Cursor.put_reverse buf x hf h, getLsbD_setBits _ _ (by omega) (by omega), if_neg hout]

/-- R110 with R106: a read of what a write put finds the bits that fitted, with zeros above them. -/
theorem Cursor.value_put (buf : Block) (x : Nat) (hfwd : cur.forward = true → cur.start + cur.length ≤ 128)
    (hrev : cur.forward = false → cur.length ≤ cur.start + 1 ∧ cur.start ≤ 127) :
    cur.value (cur.put buf n x).toNat n = x % 2 ^ cur.avail n := by
  apply Nat.eq_of_testBit_eq
  intro j
  rw [Cursor.testBit_value _ fun hf => (hrev hf).1, Nat.testBit_mod_two_pow]
  by_cases hj : j < cur.avail n
  · rw [← BitVec.getLsbD, Cursor.getLsbD_put_bitPos buf x hfwd hrev hj]
  · simp [hj]

end

end Sys2Proof.Machine

open Sys2Proof Sys2Proof.Machine

/-- Settles O32: `setBit` is the one-bit range by definition. -/
theorem setBitsChangesExactlyItsRange : Obligations.SetBitsChangesExactlyItsRange :=
  fun _ _ _ x i hl hh => ⟨getLsbD_setBits x i hl hh, rfl⟩

/-- Settles O33: the bits that the stream has are those below `avail`. -/
theorem cursorReadsItsStream : Obligations.CursorReadsItsStream := by
  intro blk cur n j hr
  refine ⟨rfl, ?_⟩
  rw [← decide_eq_decide.mpr Cursor.lt_avail_iff]
  exact Cursor.testBit_value blk hr

/-- Settles O34: each bit that fits is found where it was put. -/
theorem cursorWritesReadBack : Obligations.CursorWritesReadBack := fun buf _ _ x hfwd hrev =>
  ⟨Cursor.value_put buf x hfwd hrev, fun _ hi => Cursor.getLsbD_put_of_ne buf x hfwd hrev hi⟩
end

section
/-! Integer sequences: the digits of a field `T` or `Q`, what a sequence of cursor calls leaves in the block, and how a
block of plain values and then a whole plain sequence is read back: O36, O38, O35, O37. -/

namespace Sys2Proof.Machine

/-! ### The digits of a field (R123, R126) -/

theorem getBits_lt (v low high : Nat) : getBits v low high < 2 ^ (high - low + 1) := Nat.mod_lt _ (Nat.two_pow_pos _)

theorem getBit_le (v i : Nat) : getBit v i ≤ 1 := by
  have := getBits_lt v i i
  rw [getBit]
  simp only [Nat.sub_self] at this
  omega

/-- The trit that R123 makes of the bits `a` and `b`. -/
theorem tritOfBits_le {a b : Nat} (ha : a ≤ 1) (hb : b ≤ 1) : 2 * a + b * (1 - a) ≤ 2 := by
  interval_cases a <;> omega

theorem lowTrits_digits (c : Nat) : (lowTrits c).length = 3 ∧ ∀ d ∈ lowTrits c, d ≤ 2 := by
  have h01 := getBits_lt c 0 1
  have h23 := getBits_lt c 2 3
  have h4 := getBit_le c 4
  unfold lowTrits
  split
  · exact ⟨rfl, by simpa using ⟨tritOfBits_le (getBit_le c 3) (getBit_le c 2), by omega⟩⟩
  · split
    · exact ⟨rfl, by simp; omega⟩
    · exact ⟨rfl, by simpa using ⟨tritOfBits_le (getBit_le c 1) (getBit_le c 0), by omega, by omega⟩⟩

theorem tritsFromT_digits (t : Nat) : (tritsFromT t).length = 5 ∧ ∀ d ∈ tritsFromT t, d ≤ 2 := by
  have h56 := getBits_lt t 5 6
  have h7 := getBit_le t 7
  have key (c d e : Nat) (hd : d ≤ 2) (he : e ≤ 2) :
      (lowTrits c ++ [d, e]).length = 5 ∧ ∀ x ∈ lowTrits c ++ [d, e], x ≤ 2 := by
    obtain ⟨hl, hc⟩ := lowTrits_digits c
    refine ⟨by simp [hl], fun x hx => ?_⟩
    simp only [List.mem_append, List.mem_cons, List.not_mem_nil, or_false] at hx
    obtain hx | rfl | rfl := hx
    exacts [hc x hx, hd, he]
  unfold tritsFromT
  split
  · exact key _ 2 2 le_rfl le_rfl
  · split
    · exact key _ _ 2 (by omega) le_rfl
    · exact key _ _ _ (by omega) (by omega)

/-- `C` of R126 never has 6 or 7 in its low three bits. -/
theorem lowQuints_digits {c : Nat} (hc : getBits c 0 2 ≤ 5) : (lowQuints c).length = 2 ∧ ∀ d ∈ lowQuints c, d ≤ 4 := by
  have h34 := getBits_lt c 3 4
  unfold lowQuints
  split <;> exact ⟨rfl, by simp; omega⟩

theorem quintsFromQ_digits (q : Nat) : (quintsFromQ q).length = 3 ∧ ∀ d ∈ quintsFromQ q, d ≤ 4 := by
  have key (c d : Nat) (hc : getBits c 0 2 ≤ 5) (hd : d ≤ 4) :
      (lowQuints c ++ [d]).length = 3 ∧ ∀ x ∈ lowQuints c ++ [d], x ≤ 4 := by
    obtain ⟨hl, hlow⟩ := lowQuints_digits hc
    refine ⟨by simp [hl], fun x hx => ?_⟩
    simp only [List.mem_append, List.mem_cons, List.not_mem_nil, or_false] at hx
    obtain hx | rfl := hx
    exacts [hlow x hx, hd]
  have h0 := getBit_le q 0
  have h56 := getBits_lt q 5 6
  unfold quintsFromQ
  split
  · have h4 := getBit_le q 4
    have h3 := getBit_le q 3
    refine ⟨rfl, ?_⟩
    simp only [List.mem_cons, List.not_mem_nil, or_false, forall_eq_or_imp, forall_eq, le_refl, true_and]
    interval_cases getBit q 0 <;> omega
  · split
    · exact key _ 4 (by simp only [getBits] at *; omega) le_rfl
    · exact key _ _ (by simp only [getBits] at *; omega) (by omega)

/-! ### A field for every list of digits (R140, R141) -/

/-- The number of digit values of a mode: its range is `iseRadix * 2 ^ numBits` (R122). -/
def iseRadix : IseMode → Nat
  | .trit => 3
  | .quint => 5
  | .plainBit => 1

theorem le_iseRangeMax_iff {p : IseParams} {x : Nat} : x ≤ iseRangeMax p ↔ x < iseRadix p.mode * 2 ^ p.numBits := by
  have := Nat.two_pow_pos p.numBits
  unfold iseRangeMax
  cases p.mode <;> simp only [iseRadix] <;> omega

/-- `C` of R123 for three trits. -/
def packLowTrits (a b c : Nat) : Nat :=
  if b = 2 ∧ c = 2 then 12 + a else if c = 2 then 16 * b + 4 * a + 3 else 16 * c + 4 * b + a

/-- A field `T` with the given trits, by the branches of R123. -/
def packTrits (a b c d e : Nat) : Nat :=
  let low := packLowTrits a b c
  if d = 2 ∧ e = 2 then 32 * (low / 4) + 28 + low % 4
  else if e = 2 then 128 * d + 96 + low
  else 128 * e + 32 * d + low

/-- `C` of R126 for two quints that are not both 4. -/
def packLowQuints (a b : Nat) : Nat := if b = 4 then 8 * a + 5 else 8 * b + a

/-- A field `Q` with the given quints, by the branches of R126. -/
def packQuints (a b c : Nat) : Nat :=
  let low := packLowQuints a b
  if a = 4 ∧ b = 4 then if c = 4 then 7 else 8 * c + 6
  else if c = 4 then 32 * (3 - low / 2 % 4) + 8 * (low / 8) + 6 + low % 2
  else 32 * c + low

theorem tritsFromT_packTrits : ∀ a < 3, ∀ b < 3, ∀ c < 3, ∀ d < 3, ∀ e < 3,
    tritsFromT (packTrits a b c d e) = [a, b, c, d, e] := by decide +kernel

theorem quintsFromQ_packQuints : ∀ a < 5, ∀ b < 5, ∀ c < 5, quintsFromQ (packQuints a b c) = [a, b, c] := by
  decide +kernel

/-- With zeros after the first `k` trits, the field lies in its first `k` pieces (R124, R125). -/
theorem packTrits_lt {k a b c d e : Nat} (ha : a < 3) (hb : b < 3) (hc : c < 3) (hd : d < 3) (he : e < 3) (hk : k ≤ 5)
    (hz : ∀ x ∈ [a, b, c, d, e].drop k, x = 0) : packTrits a b c d e < 2 ^ ((isePieceWidths .trit).take k).sum := by
  have hlow : packLowTrits a b c < 32 ∧ (c = 0 → packLowTrits a b c = 4 * b + a) := by
    unfold packLowTrits
    split_ifs <;> omega
  obtain ⟨hlow, hlow0⟩ := hlow
  unfold packTrits
  interval_cases k <;> simp [isePieceWidths] at hz ⊢ <;> split_ifs <;> omega

/-- With zeros after the first `k` quints, the field lies in its first `k` pieces (R127, R128). -/
theorem packQuints_lt {k a b c : Nat} (ha : a < 5) (hb : b < 5) (hc : c < 5) (hk : k ≤ 3)
    (hz : ∀ x ∈ [a, b, c].drop k, x = 0) : packQuints a b c < 2 ^ ((isePieceWidths .quint).take k).sum := by
  unfold packQuints packLowQuints
  interval_cases k <;> simp [isePieceWidths] at hz ⊢ <;> split_ifs <;> omega

section
variable {mode : IseMode} {ds : List Nat}

theorem isePieceWidths_length (hm : mode ≠ .plainBit) : (isePieceWidths mode).length = iseBlockSize mode := by
  cases mode with
  | trit => rfl
  | quint => rfl
  | plainBit => exact absurd rfl hm

theorem exists_iseDigits_eq (hm : mode ≠ .plainBit) (hl : ds.length = iseBlockSize mode)
    (hd : ∀ d ∈ ds, d < iseRadix mode) :
    ∃ tq, iseDigits mode tq = ds ∧ ∀ k ≤ iseBlockSize mode, (∀ d ∈ ds.drop k, d = 0) →
      tq < 2 ^ ((isePieceWidths mode).take k).sum := by
  cases mode with
  | trit =>
    obtain ⟨a, b, c, d, e, rfl⟩ : ∃ a b c d e, ds = [a, b, c, d, e] := by
      match ds, hl with
      | [a, b, c, d, e], _ => exact ⟨a, b, c, d, e, rfl⟩
    simp only [List.mem_cons, List.not_mem_nil, or_false, forall_eq_or_imp, forall_eq] at hd
    obtain ⟨ha, hb, hc, hd, he⟩ := hd
    exact ⟨_, tritsFromT_packTrits a ha b hb c hc d hd e he,
      fun _ => packTrits_lt ha hb hc hd he⟩
  | quint =>
    obtain ⟨a, b, c, rfl⟩ := List.length_eq_three.mp hl
    simp only [List.mem_cons, List.not_mem_nil, or_false, forall_eq_or_imp, forall_eq] at hd
    obtain ⟨ha, hb, hc⟩ := hd
    exact ⟨_, quintsFromQ_packQuints a ha b hb c hc,
      fun _ => packQuints_lt ha hb hc⟩
  | plainBit => exact absurd rfl hm

/-- A search over `0, 1, ...` finds a value that is no larger than a given one. -/
theorem find?_range_getD_le {q : Nat → Bool} {n t : Nat} (ht : t < n) (hq : q t = true) :
    q (((List.range n).find? q).getD 0) = true ∧ ((List.range n).find? q).getD 0 ≤ t := by
  obtain ⟨i, hi⟩ := Option.isSome_iff_exists.mp (List.find?_isSome.mpr ⟨t, List.mem_range.mpr ht, hq⟩)
  obtain ⟨hqi, -, hmin⟩ := List.find?_range_eq_some.mp hi
  rw [hi, Option.getD_some]
  exact ⟨hqi, not_lt.mp fun hlt => by simpa [hq] using hmin t hlt⟩

/-- The encoder picks the smallest field with the digits of a given one. -/
theorem iseJoined_spec (hm : mode ≠ .plainBit) {tq : Nat} (ht : tq < 2 ^ (isePieceWidths mode).sum)
    (hds : iseDigits mode tq = ds) : iseDigits mode (iseJoined mode ds) = ds ∧ iseJoined mode ds ≤ tq := by
  cases mode with
  | trit =>
    obtain ⟨hq, hle⟩ := find?_range_getD_le (q := fun t => tritsFromT t == ds) ht (beq_iff_eq.mpr hds)
    exact ⟨beq_iff_eq.mp hq, hle⟩
  | quint =>
    obtain ⟨hq, hle⟩ := find?_range_getD_le (q := fun q => quintsFromQ q == ds) ht (beq_iff_eq.mpr hds)
    exact ⟨beq_iff_eq.mp hq, hle⟩
  | plainBit => exact absurd rfl hm

/-- The field that is written gives the digits back, and with zeros after the first `k` it lies in `k` pieces. -/
theorem iseJoined_digits (hm : mode ≠ .plainBit) (hl : ds.length = iseBlockSize mode)
    (hd : ∀ d ∈ ds, d < iseRadix mode) :
    iseDigits mode (iseJoined mode ds) = ds ∧ ∀ k ≤ iseBlockSize mode, (∀ d ∈ ds.drop k, d = 0) →
      iseJoined mode ds < 2 ^ ((isePieceWidths mode).take k).sum := by
  obtain ⟨tq, hds, hlt⟩ := exists_iseDigits_eq hm hl hd
  have htq := hlt _ le_rfl (by simp [← hl])
  rw [← isePieceWidths_length hm, List.take_length] at htq
  obtain ⟨hdigits, hle⟩ := iseJoined_spec hm htq hds
  exact ⟨hdigits, fun k hk hz => hle.trans_lt (hlt k hk hz)⟩

end

/-! ### Sequences of cursor calls (R110) -/

/-- The range of a cursor lies inside the block. -/
def Cursor.InBlock (cur : Cursor) : Prop :=
  (cur.forward = true → cur.start + cur.length ≤ 128)
    ∧ (cur.forward = false → cur.length ≤ cur.start + 1 ∧ cur.start ≤ 127)

/-- Reading at the cursor finds the values of a sequence of writes, each cut to the bits that fit. -/
def Cursor.Holds (blk : Nat) : Cursor → List (Nat × Nat) → Prop
  | _, [] => True
  | cur, (n, x) :: rest => cur.value blk n = x % 2 ^ cur.avail n ∧ Cursor.Holds blk (cur.advance n) rest

section
variable {cur : Cursor}

theorem Cursor.advance_advance (cur : Cursor) (m n : Nat) : (cur.advance m).advance n = cur.advance (m + n) := by
  rw [Cursor.advance, Cursor.advance, Cursor.advance, Nat.add_assoc]

theorem Cursor.InBlock.advance (h : cur.InBlock) (n : Nat) : (cur.advance n).InBlock := h

theorem Cursor.avail_of_fits {n : Nat} (h : cur.ndx + n ≤ cur.length) : cur.avail n = n := by
  rw [Cursor.avail]
  omega

/-- A write further on in the stream leaves an earlier value as it was. -/
theorem Cursor.value_put_advance (h : cur.InBlock) (buf : Block) {n k : Nat} (hk : n ≤ k) (m x : Nat) :
    cur.value ((cur.advance k).put buf m x).toNat n = cur.value buf.toNat n := by
  obtain ⟨hfwd, hrev⟩ := h
  apply Nat.eq_of_testBit_eq
  intro j
  rw [Cursor.testBit_value _ fun hf => (hrev hf).1, Cursor.testBit_value _ fun hf => (hrev hf).1]
  by_cases hj : j < cur.avail n
  · obtain ⟨hjn, -⟩ := Cursor.lt_avail_iff.mp hj
    rw [← BitVec.getLsbD, ← BitVec.getLsbD, Cursor.getLsbD_put_of_ne (cur := cur.advance k) buf x hfwd hrev]
    intro i hi
    have hin : cur.ndx + k + i < cur.length := (Cursor.lt_avail_iff.mp hi).2
    cases hf : cur.forward
    case true =>
      rw [Cursor.bitPos_forward hf, Cursor.bitPos_forward (cur := cur.advance k) hf]
      simp only [Cursor.advance]
      omega
    case false =>
      have hlen := (hrev hf).1
      rw [Cursor.bitPos_reverse hf, Cursor.bitPos_reverse (cur := cur.advance k) hf]
      simp only [Cursor.advance]
      omega
  · simp [hj]

theorem Cursor.value_putAll_advance (h : cur.InBlock) (ps : List (Nat × Nat)) (buf : Block) {n k : Nat} (hk : n ≤ k) :
    cur.value ((cur.advance k).putAll buf ps).toNat n = cur.value buf.toNat n := by
  induction ps generalizing buf k with
  | nil => rfl
  | cons p ps ih =>
    rw [Cursor.putAll, Cursor.advance_advance, ih _ (by omega), Cursor.value_put_advance h buf hk]

theorem Cursor.holds_putAll (h : cur.InBlock) (ps : List (Nat × Nat)) (buf : Block) :
    cur.Holds (cur.putAll buf ps).toNat ps := by
  induction ps generalizing buf cur with
  | nil => trivial
  | cons p ps ih =>
    refine ⟨?_, ih (h.advance p.1) _⟩
    rw [Cursor.putAll, Cursor.value_putAll_advance h ps _ le_rfl, Cursor.value_put buf p.2 h.1 h.2]

theorem Cursor.holds_append {blk : Nat} (ps qs : List (Nat × Nat)) :
    cur.Holds blk (ps ++ qs) ↔ cur.Holds blk ps ∧ (cur.advance (ps.map Prod.fst).sum).Holds blk qs := by
  induction ps generalizing cur with
  | nil => simp [Cursor.Holds, Cursor.advance]
  | cons p ps ih => simp [Cursor.Holds, ih, Cursor.advance_advance, and_assoc]

end

/-! ### One block read back (R124, R127, R129) -/

section
variable {cur : Cursor} {blk numBits k tq : Nat} {ws ms : List Nat}

/-- The field read is the one written, as far as its pieces belong to elements that are read. -/
theorem joinPieces_readPieces (hl : ms.length = ws.length) (hk : k ≤ ws.length)
    (h : cur.Holds blk (interleavePieces numBits ws ms tq))
    (hfit : cur.ndx + (k * numBits + (ws.take k).sum) ≤ cur.length) :
    joinPieces k ws (readPieces blk numBits ws cur) = tq % 2 ^ (ws.take k).sum := by
  induction ws generalizing cur ms tq k with
  | nil => simp [joinPieces, Nat.mod_one]
  | cons w ws ih =>
    match k, ms, hl with
    | 0, _, _ => simp [joinPieces, Nat.mod_one]
    | k + 1, m :: ms, hl =>
      obtain ⟨-, hw, hrest⟩ := h
      rw [List.take_succ_cons, List.sum_cons, Nat.add_mul] at hfit
      rw [readPieces, joinPieces, hw, Cursor.avail_of_fits (by simp only [Cursor.advance]; omega),
        ih (Nat.succ.inj hl) (Nat.le_of_succ_le_succ hk) hrest (by simp only [Cursor.advance]; omega), Nat.mod_mod,
        List.take_succ_cons, List.sum_cons, Nat.pow_add, Nat.mod_mul]

/-- The values read, from the raw bits that were written and the digits of the field read. -/
theorem map_v_iseElems (hl : ms.length = ws.length) (hk : k ≤ ws.length)
    (h : cur.Holds blk (interleavePieces numBits ws ms tq))
    (hfit : cur.ndx + (k * numBits + (ws.take k).sum) ≤ cur.length) (ds : List Nat) :
    (iseElems numBits k (readPieces blk numBits ws cur) ds).map (·.v)
      = (List.zipWith (fun m d => d * 2 ^ numBits + m % 2 ^ numBits) ms ds).take k := by
  induction ws generalizing cur ms tq k ds with
  | nil => simp [readPieces, iseElems, List.length_eq_zero_iff.mp hl]
  | cons w ws ih =>
    match k, ms, ds, hl with
    | 0, _, _, _ => simp [iseElems]
    | k + 1, m :: ms, [], hl => simp [iseElems]
    | k + 1, m :: ms, d :: ds, hl =>
      obtain ⟨hm, -, hrest⟩ := h
      rw [List.take_succ_cons, List.sum_cons, Nat.add_mul] at hfit
      rw [readPieces, iseElems, List.map_cons, hm, Cursor.avail_of_fits (by omega),
        ih (Nat.succ.inj hl) (Nat.le_of_succ_le_succ hk) hrest (by simp only [Cursor.advance]; omega),
        List.zipWith_cons_cons, List.take_succ_cons]

theorem sum_widths_interleavePieces (hl : ms.length = ws.length) :
    ((interleavePieces numBits ws ms tq).map Prod.fst).sum = ws.length * numBits + ws.sum := by
  induction ws generalizing ms tq with
  | nil => simp [interleavePieces]
  | cons w ws ih =>
    match ms, hl with
    | m :: ms, hl =>
      simp only [interleavePieces, List.map_cons, List.sum_cons, ih (Nat.succ.inj hl), List.length_cons, Nat.add_mul]
      omega

end

theorem takePadded_eq {n : Nat} {xs : List Nat} (h : xs.length ≤ n) :
    takePadded n xs = xs ++ List.replicate (n - xs.length) 0 := by
  induction n generalizing xs with
  | zero => simp [takePadded, List.length_eq_zero_iff.mp (Nat.le_zero.mp h)]
  | succ n ih =>
    match xs, h with
    | [], _ => simp [takePadded, ih, List.replicate_succ]
    | x :: xs, h => simp [takePadded, ih (Nat.le_of_succ_le_succ h)]

section
variable {p : IseParams} {xs : List Nat}

theorem plainPairs_of_plainBit (hm : p.mode = .plainBit) : plainPairs p xs = [(p.numBits, xs.headD 0)] := by
  rw [plainPairs, hm]

theorem plainPairs_of_ne (hm : p.mode ≠ .plainBit) :
    plainPairs p xs = interleavePieces p.numBits (isePieceWidths p.mode)
      ((takePadded (iseBlockSize p.mode) xs).map (· % 2 ^ p.numBits))
      (iseJoined p.mode ((takePadded (iseBlockSize p.mode) xs).map (· / 2 ^ p.numBits))) := by
  unfold plainPairs
  split
  · contradiction
  · rfl

theorem decodeIseBlock_of_plainBit (hm : p.mode = .plainBit) (blk n : Nat) (cur : Cursor) :
    decodeIseBlock blk p n cur = [⟨cur.value blk p.numBits, 0, cur.value blk p.numBits⟩] := by
  rw [decodeIseBlock, hm]

theorem decodeIseBlock_of_ne (hm : p.mode ≠ .plainBit) (blk n : Nat) (cur : Cursor) :
    decodeIseBlock blk p n cur =
      iseElems p.numBits n (readPieces blk p.numBits (isePieceWidths p.mode) cur)
        (iseDigits p.mode (joinPieces n (isePieceWidths p.mode)
          (readPieces blk p.numBits (isePieceWidths p.mode) cur))) := by
  unfold decodeIseBlock
  split
  · contradiction
  · rfl

/-- A whole block of calls spans the bits of R130. -/
theorem sum_widths_plainPairs (hsz : xs.length ≤ iseBlockSize p.mode) :
    ((plainPairs p xs).map Prod.fst).sum = iseBlockBits p := by
  by_cases hm : p.mode = .plainBit
  · simp [plainPairs_of_plainBit hm, iseBlockBits, hm]
  · rw [plainPairs_of_ne hm, sum_widths_interleavePieces
      (by simp [takePadded_eq hsz, isePieceWidths_length hm, Nat.add_sub_of_le hsz])]
    unfold iseBlockBits
    cases hmode : p.mode with
    | trit => simp [isePieceWidths, Nat.add_comm]
    | quint => simp [isePieceWidths, Nat.add_comm]
    | plainBit => exact absurd hmode hm

/-- The elements of one incomplete or complete block take their raw bits and their pieces (R121). -/
theorem iseRequiredBits_of_le_blockSize {n : Nat} (hm : p.mode ≠ .plainBit) (hn : n ≤ iseBlockSize p.mode) :
    iseRequiredBits p n = n * p.numBits + ((isePieceWidths p.mode).take n).sum := by
  unfold iseRequiredBits
  cases hmode : p.mode with
  | trit =>
    have hn : n ≤ 5 := by rwa [hmode] at hn
    interval_cases n <;> simp [ceilDiv, isePieceWidths, Nat.add_comm]
  | quint =>
    have hn : n ≤ 3 := by rwa [hmode] at hn
    interval_cases n <;> simp [ceilDiv, isePieceWidths, Nat.add_comm]
  | plainBit => exact absurd hmode hm

/-- The field written for a block of plain values holds their digits, and zeros stand for the values that the block
lacks: the pieces that a reader of the block leaves out are 0 (R125, R128). -/
theorem iseJoined_takePadded (hm : p.mode ≠ .plainBit) (hsz : xs.length ≤ iseBlockSize p.mode)
    (hx : ∀ x ∈ xs, x ≤ iseRangeMax p) :
    let ds := (takePadded (iseBlockSize p.mode) xs).map (· / 2 ^ p.numBits)
    iseDigits p.mode (iseJoined p.mode ds) = ds
      ∧ iseJoined p.mode ds < 2 ^ ((isePieceWidths p.mode).take xs.length).sum := by
  rw [takePadded_eq hsz]
  have hdigits : ∀ d ∈ (xs ++ List.replicate (iseBlockSize p.mode - xs.length) 0).map (· / 2 ^ p.numBits),
      d < iseRadix p.mode := by
    intro d hd
    obtain ⟨x, hxp, rfl⟩ := List.mem_map.mp hd
    have hle : x ≤ iseRangeMax p := by
      rw [List.mem_append, List.mem_replicate] at hxp
      obtain hxs | ⟨-, rfl⟩ := hxp
      exacts [hx x hxs, Nat.zero_le _]
    exact (Nat.div_lt_iff_lt_mul (Nat.two_pow_pos _)).mpr (le_iseRangeMax_iff.mp hle)
  obtain ⟨hround, hlt⟩ := iseJoined_digits hm (by simp [Nat.add_sub_of_le hsz]) hdigits
  exact ⟨hround, hlt _ hsz (by simp)⟩

/-- Wherever the calls of one block of plain values stand, reading gives its values. -/
theorem decodeIseBlock_plainPairs {blk k : Nat} {cur : Cursor} (hk : xs.length = k) (hpos : 0 < k)
    (hsz : k ≤ iseBlockSize p.mode) (hx : ∀ x ∈ xs, x ≤ iseRangeMax p) (h : cur.Holds blk (plainPairs p xs))
    (hfit : cur.ndx + iseRequiredBits p k ≤ cur.length) : (decodeIseBlock blk p k cur).map (·.v) = xs := by
  subst hk
  by_cases hm : p.mode = .plainBit
  · obtain ⟨x, rfl⟩ := List.length_eq_one_iff.mp (Nat.le_antisymm (by simpa [hm, iseBlockSize] using hsz) hpos)
    rw [plainPairs_of_plainBit hm] at h
    have hlt := le_iseRangeMax_iff.mp (hx x (by simp))
    simp only [hm, iseRadix, one_mul] at hlt
    have hbits : iseRequiredBits p [x].length = p.numBits := by simp [iseRequiredBits, hm]
    rw [decodeIseBlock_of_plainBit hm, h.1, Cursor.avail_of_fits (by omega)]
    simp [Nat.mod_eq_of_lt hlt]
  · obtain ⟨hround, htq⟩ := iseJoined_takePadded hm hsz hx
    have hws := isePieceWidths_length hm
    rw [plainPairs_of_ne hm] at h
    rw [iseRequiredBits_of_le_blockSize hm hsz] at hfit
    have hms : ((takePadded (iseBlockSize p.mode) xs).map (· % 2 ^ p.numBits)).length
        = (isePieceWidths p.mode).length := by simp [takePadded_eq hsz, hws, Nat.add_sub_of_le hsz]
    have hk : xs.length ≤ (isePieceWidths p.mode).length := hws ▸ hsz
    rw [decodeIseBlock_of_ne hm, joinPieces_readPieces hms hk h hfit, Nat.mod_eq_of_lt htq, hround,
      map_v_iseElems hms hk h hfit, List.zipWith_map, List.zipWith_self]
    simp [takePadded_eq hsz, Nat.div_add_mod']

end

/-! ### A sequence read back (R129, R145) -/

section
variable {p : IseParams}

theorem iseBlockSize_pos (mode : IseMode) : 0 < iseBlockSize mode := by cases mode <;> decide

theorem ceilDiv_eq_zero {n b : Nat} (hb : 0 < b) (h : ceilDiv n b = 0) : n = 0 := by
  rw [ceilDiv, Nat.div_eq_zero_iff] at h
  omega

theorem ceilDiv_eq_succ {n b m : Nat} (hb : 0 < b) (h : ceilDiv n b = m + 1) : 0 < n ∧ ceilDiv (n - b) b = m := by
  have hn : 0 < n := by
    rcases Nat.eq_zero_or_pos n with rfl | hn
    · rw [ceilDiv, Nat.div_eq_of_lt (by omega)] at h
      omega
    · exact hn
  refine ⟨hn, ?_⟩
  unfold ceilDiv at *
  rcases Nat.lt_or_ge n b with hlt | hge
  · have h1 : (n + b - 1) / b = 1 := Nat.div_eq_of_lt_le (by omega) (by omega)
    rw [Nat.div_eq_of_lt (by omega)]
    omega
  · rw [show n + b - 1 = n - b + b - 1 + b by omega, Nat.add_div_right _ hb] at h
    omega

theorem iseRequiredBits_mono {m n : Nat} (h : m ≤ n) : iseRequiredBits p m ≤ iseRequiredBits p n := by
  have := Nat.mul_le_mul_right p.numBits h
  unfold iseRequiredBits ceilDiv
  cases p.mode <;> simp only <;> omega

/-- A full block takes the bits of R130 out of those of the sequence. -/
theorem iseRequiredBits_of_blockSize_le {n : Nat} (h : iseBlockSize p.mode ≤ n) :
    iseRequiredBits p n = iseBlockBits p + iseRequiredBits p (n - iseBlockSize p.mode) := by
  obtain ⟨m, rfl⟩ := Nat.exists_eq_add_of_le h
  rw [Nat.add_sub_cancel_left]
  unfold iseRequiredBits iseBlockBits ceilDiv
  cases p.mode <;> simp only [iseBlockSize, Nat.add_mul] <;> omega

theorem take_eq_take_min_append (xs : List Nat) (b n : Nat) :
    xs.take n = xs.take (min b n) ++ (xs.drop b).take (n - b) := by
  rcases Nat.le_total n b with hle | hge
  · simp [min_eq_right hle, Nat.sub_eq_zero_of_le hle]
  · rw [min_eq_left hge, ← List.take_add, Nat.add_sub_of_le hge]

/-- Wherever the calls of a plain sequence stand in a block, reading gives its values. -/
theorem decodeIseBlocks_plainSequence {blk : Nat} (nb n : Nat) (xs : List Nat) (cur : Cursor)
    (hnb : ceilDiv n (iseBlockSize p.mode) = nb) (hn : n ≤ xs.length) (hx : ∀ x ∈ xs.take n, x ≤ iseRangeMax p)
    (h : cur.Holds blk (plainSequence p nb n xs)) (hfit : cur.ndx + iseRequiredBits p n ≤ cur.length) :
    (decodeIseBlocks blk p nb n cur).map (·.v) = xs.take n := by
  induction nb generalizing n xs cur with
  | zero => simp [decodeIseBlocks, ceilDiv_eq_zero (iseBlockSize_pos _) hnb]
  | succ nb ih =>
    have hb := iseBlockSize_pos p.mode
    obtain ⟨hpos, hnb⟩ := ceilDiv_eq_succ hb hnb
    have hlen : (xs.take (min (iseBlockSize p.mode) n)).length = min (iseBlockSize p.mode) n :=
      List.length_take_of_le (by omega)
    rw [plainSequence, Cursor.holds_append, sum_widths_plainPairs (by omega)] at h
    obtain ⟨hblock, hrest⟩ := h
    rw [take_eq_take_min_append xs (iseBlockSize p.mode) n] at hx ⊢
    rw [decodeIseBlocks, List.map_append]
    congr 1
    · have hbits := iseRequiredBits_mono (p := p) (min_le_right (iseBlockSize p.mode) n)
      exact decodeIseBlock_plainPairs hlen (by omega) (min_le_left _ _)
        (fun x hxm => hx x (List.mem_append_left _ hxm)) hblock (by omega)
    · rcases Nat.lt_or_ge n (iseBlockSize p.mode) with hlt | hge
      · have h0 : n - iseBlockSize p.mode = 0 := by omega
        have hb0 : nb = 0 := by rw [← hnb, h0, ceilDiv, Nat.div_eq_of_lt (by omega)]
        simp [h0, hb0, decodeIseBlocks]
      · rw [iseRequiredBits_of_blockSize_le hge] at hfit
        exact ih _ _ _ hnb (by rw [List.length_drop]; omega) (fun x hxm => hx x (List.mem_append_right _ hxm)) hrest
          (by simp only [Cursor.advance]; omega)

/-- A plain sequence that stands in a block at a cursor is decoded to its values. -/
theorem decodeIse_of_holds {blk n : Nat} {inp : IseInput} {cur : Cursor} (hn : n ≤ 64) (hform : inp.form = .plain)
    (hr : iseInputInRange p inp n = true) (h : cur.Holds blk (iseSequence p inp n))
    (hfit : cur.ndx + iseRequiredBits p n ≤ cur.length) :
    (decodeIse blk cur p n).map (·.v) = (plainValues inp).take n := by
  rw [iseSequence, hform] at h
  rw [iseInputInRange, hform] at hr
  exact decodeIseBlocks_plainSequence _ n _ cur rfl (by simpa [plainValues] using hn)
    (fun x hx => of_decide_eq_true (List.all_eq_true.mp hr x hx)) h hfit

end

/-! ### The colour parameters (R135) -/

/-- In a sorted list, the first element that fits comes before every element that fits. -/
theorem find?_getD_of_pairwise {α : Type} {R : α → α → Prop} (q : α → Bool) {l : List α} {x : α} (d : α)
    (hrefl : ∀ a, R a a) (hl : l.Pairwise R) (hx : x ∈ l) (hq : q x = true) :
    (l.find? q).getD d ∈ l ∧ q ((l.find? q).getD d) = true ∧ ∀ y ∈ l, q y = true → R ((l.find? q).getD d) y := by
  obtain ⟨a, ha⟩ := Option.isSome_iff_exists.mp (List.find?_isSome.mpr ⟨x, hx, hq⟩)
  rw [ha, Option.getD_some]
  obtain ⟨hqa, as, bs, rfl, has⟩ := List.find?_eq_some_iff_append.mp ha
  obtain ⟨-, hcons, -⟩ := List.pairwise_append.mp hl
  refine ⟨by simp, hqa, fun y hy hqy => ?_⟩
  obtain hy | rfl | hy : y ∈ as ∨ y = a ∨ y ∈ bs := by simpa using hy
  · simpa [hqy] using has y hy
  · exact hrefl y
  · exact (List.pairwise_cons.mp hcons).1 y hy

theorem colourIseList_falling : colourIseList.Pairwise (fun p q => iseRangeMax q ≤ iseRangeMax p) := by decide

/-- The check of R311 asks for the bits of the range 0..5. -/
theorem iseRequiredBits_trit_one (n : Nat) : iseRequiredBits ⟨.trit, 1⟩ n = ceilDiv (13 * n) 5 := by
  simp only [iseRequiredBits, ceilDiv]
  omega

/-- When some pair of the list fits, the chosen one fits and no fitting pair has a larger range. -/
theorem colourIseParams_spec {avail n : Nat} {p : IseParams} (hp : p ∈ colourIseList)
    (hfit : iseRequiredBits p n ≤ avail) :
    colourIseParams avail n ∈ colourIseList ∧ iseRequiredBits (colourIseParams avail n) n ≤ avail
      ∧ ∀ q ∈ colourIseList, iseRequiredBits q n ≤ avail →
        iseRangeMax q ≤ iseRangeMax (colourIseParams avail n) := by
  obtain ⟨hmem, hchosen, hlargest⟩ := find?_getD_of_pairwise (R := fun p q => iseRangeMax q ≤ iseRangeMax p)
    (fun q => decide (iseRequiredBits q n ≤ avail)) ⟨.plainBit, 1⟩ (fun _ => le_rfl) colourIseList_falling hp
    (decide_eq_true hfit)
  exact ⟨hmem, of_decide_eq_true hchosen, fun q hq hqfit => hlargest q hq (decide_eq_true hqfit)⟩

end Sys2Proof.Machine

open Sys2Proof Sys2Proof.Machine

/-- Settles O36: the calls of the encoder stand in the block it wrote, and decoding reads them call by call. -/
theorem isePlainRoundTrip : Obligations.IsePlainRoundTrip := by
  intro buf p inp n cur _ hn hform hr hndx hfit hfwd hrev
  exact decodeIse_of_holds hn hform hr (Cursor.holds_putAll ⟨hfwd, hrev⟩ _ buf) (by omega)

/-- Settles O38: the pair of the range 0..5 fits, and the list falls in range. -/
theorem colourParametersFit : Obligations.ColourParametersFit := by
  intro avail n h
  have hmem : (⟨.trit, 1⟩ : IseParams) ∈ colourIseList := by decide
  have hfit : iseRequiredBits ⟨.trit, 1⟩ n ≤ avail := by rwa [iseRequiredBits_trit_one]
  obtain ⟨hin, hfits, hlargest⟩ := colourIseParams_spec hmem hfit
  exact ⟨hin, hfits, hlargest _ hmem hfit, hlargest⟩

/-- Settles O35: the digits are legal for every field, and the encoder searches the fields in rising order. -/
theorem tritAndQuintTables : Obligations.TritAndQuintTables := by
  refine ⟨fun t ht => ?_, fun q hq => ?_⟩
  · obtain ⟨hlen, hle⟩ := tritsFromT_digits t
    exact ⟨hlen, hle, iseJoined_spec (mode := .trit) (by decide) ht rfl⟩
  · obtain ⟨hlen, hle⟩ := quintsFromQ_digits q
    exact ⟨hlen, hle, iseJoined_spec (mode := .quint) (by decide) hq rfl⟩

/-- Settles O37: each row of R139 is a closed table of at most 32 values. -/
theorem weightUnquantisationTable : Obligations.WeightUnquantisationTable := by
  refine ⟨?_, ?_, ?_, ?_, ?_, ?_, ?_, ?_, ?_, ?_, ?_, ?_⟩ <;> decide +kernel
end

section
/-! Block modes that end in an error block: the reserved rows and the heavy grids: O8, O10. -/

namespace Sys2Proof.Machine

/-- A whole-block error is a decode that ends with the error colour in every texel (R304, R404). -/
theorem errorBlock_decodedAs (c : Cause) (s : State) :
    ∃ t, errorBlock c s = .next t
      ∧ decodedAs s t c (decide (c = .veInfNan)) (fun _ _ => errorColour (cfgSrgb s.cfg)) := by
  refine finish_decodedAs c List.length_replicate fun tx hx ty hy => ?_
  have hin : ty * blockW s.cfg + tx < texelCount s.cfg := by
    calc ty * blockW s.cfg + tx < (ty + 1) * blockW s.cfg := by rw [Nat.succ_mul]; omega
      _ ≤ blockH s.cfg * blockW s.cfg := Nat.mul_le_mul_right _ hy
      _ = texelCount s.cfg := Nat.mul_comm _ _
  exact List.getElem?_replicate_of_lt hin

/-! ### The weights of a heavy grid -/

/-- From `r` = 4 on, a weight takes at least two bits (R121, R166). -/
theorem two_mul_le_iseRequiredBits_weightIse {r : Nat} (hr : 4 ≤ r) (h : Bool) (n : Nat) :
    2 * n ≤ iseRequiredBits (weightIse r h) n := by
  unfold weightIse
  split <;> simp only [iseRequiredBits, ceilDiv] <;> omega

/-- Sixty weights of at least two bits fail R306 with two planes and R307 with one. -/
theorem acceptMode_of_heavy {w g r : Nat} (hwg : w * g = 60) (hr : 4 ≤ r) (d h : Bool) (s : State) :
    acceptMode (gridMode w g r d h) s = errorBlock (if d = true then .weightCount else .weightBits) s := by
  have hcount : weightCount (gridMode w g r d h) = 60 * planesOf d := by rw [← hwg]; rfl
  have hbits : 2 * (60 * planesOf d) ≤ weightBits (gridMode w g r d h) := by
    rw [← hcount]
    exact two_mul_le_iseRequiredBits_weightIse hr h _
  cases d with
  | true => exact if_pos (by rw [hcount]; decide)
  | false =>
    refine (if_neg (by rw [hcount]; decide)).trans (if_pos (.inr ?_))
    exact Nat.lt_of_lt_of_le (by decide) hbits

/-- The rows of layouts 7 and 8 with `r2 r1` of 2 or 3, as `acceptMode` of their mode. -/
theorem exec_gridRowsHeavy {row} (hrow : row ∈ gridRowsHeavy) (d h r0 : Bool) (s : State) :
    ∃ w g r, w * g = 60 ∧ 4 ≤ r ∧ exec (row d h r0) s = acceptMode (gridMode w g r d h) s := by
  simp only [gridRowsHeavy, List.mem_cons, List.not_mem_nil, or_false] at hrow
  obtain rfl | rfl | rfl | rfl := hrow
  · exact ⟨6, 10, 4 + r0.toNat, rfl, by omega, rfl⟩
  · exact ⟨6, 10, 6 + r0.toNat, rfl, by omega, rfl⟩
  · exact ⟨10, 6, 4 + r0.toNat, rfl, by omega, rfl⟩
  · exact ⟨10, 6, 6 + r0.toNat, rfl, by omega, rfl⟩

end Sys2Proof.Machine

open Sys2Proof Sys2Proof.Machine

/-- Settles O8: each of the six rows is the error block of R301. -/
theorem reservedRowsAreErrorBlocks : Obligations.ReservedRowsAreErrorBlocks := by
  intro x hi lo s i hrow
  have hexec : exec i s = errorBlock .reservedMode s := by
    fin_cases hrow <;> rfl
  rw [hexec]
  exact errorBlock_decodedAs .reservedMode s

/-- Settles O10: sixty weights are too many with two planes, and too many bits with one. -/
theorem heavyGridRowsAreErrorBlocks : Obligations.HeavyGridRowsAreErrorBlocks := by
  intro row hrow d h r0 s
  obtain ⟨w, g, r, hwg, hr, hexec⟩ := exec_gridRowsHeavy hrow d h r0 s
  rw [hexec, acceptMode_of_heavy hwg hr]
  cases d with
  | true => exact errorBlock_decodedAs .weightCount s
  | false => exact errorBlock_decodedAs .weightBits s
end

section
/-! Block modes: the parser against the rows of the decoder, and against the writer: O6, O7. -/

namespace Sys2Proof.Machine

/-! ### Normal block modes, by their fields (R163 to R165) -/

/-- The grid `(W, H)` of layouts 0 to 4: `i` is bits 3:2 of the mode, `b` its bits 8:7, `a` its bits 6:5. -/
def lowModeGrid (i b a : Nat) : Nat × Nat :=
  match i with
  | 0 => (b + 4, a + 2)
  | 1 => (b + 8, a + 2)
  | 2 => (a + 2, b + 8)
  | _ => if b / 2 = 1 then (b % 2 + 2, a + 2) else (a + 2, b % 2 + 6)

/-- The grid `(W, H)` of layouts 5 to 8. -/
def highModeGrid (b a : Nat) : Nat × Nat :=
  match b with
  | 0 => (12, a + 2)
  | 1 => (a + 2, 12)
  | _ => if a % 2 = 1 then (10, 6) else (6, 10)

/-- The normal block modes and what they mean: layouts 0 to 4, layouts 5 to 8, and layout 9, whose `b` stands in the
place of `D` and `H`. `q` is `r2 r1`. -/
inductive NormalMode : Nat → BlockModeInfo → Prop where
  | low {i q b a : Nat} (hi : i < 4) (hq : q = 1 ∨ q = 2 ∨ q = 3) (hb : b < 4) (ha : a < 4) (d h r0 : Bool) :
    NormalMode (modeWord (4 * i + q) d h r0 b a)
      (gridMode (lowModeGrid i b a).1 (lowModeGrid i b a).2 (2 * q + r0.toNat) d h)
  | high {q b a : Nat} (hq : q = 1 ∨ q = 2 ∨ q = 3) (hb : b < 4) (ha : a < 4) (h9 : b ≠ 2)
      (h111 : b * 2 + a / 2 ≠ 7) (d h r0 : Bool) :
    NormalMode (modeWord (4 * q) d h r0 b a)
      (gridMode (highModeGrid b a).1 (highModeGrid b a).2 (2 * q + r0.toNat) d h)
  | wide {q a : Nat} (hq : q = 1 ∨ q = 2 ∨ q = 3) (ha : a < 4) (b1 b0 r0 : Bool) :
    NormalMode (modeWord (4 * q) b1 b0 r0 2 a)
      (gridMode (a + 6) (b1.toNat * 2 + b0.toNat + 6) (2 * q + r0.toNat) false false)

/-! ### The parser, by the fields that the decoder reads -/

theorem getBits_eq_bitsOf (v low high : Nat) : getBits v low high = bitsOf v high low := rfl

theorem getBit_eq_toNat_bitAt (v i : Nat) : getBit v i = (bitAt v i).toNat := by
  simp [toNat_bitAt, getBit, getBits]

theorem isBitSet_eq_bitAt (v i : Nat) : isBitSet v i = bitAt v i := by
  simp [isBitSet, getBit, getBits, bitAt]

/-- `r` from its bits (R163, R164). -/
theorem range_eq (m lo : Nat) :
    4 * getBit m (lo + 1) + 2 * getBit m lo + getBit m 4 = 2 * bitsOf m (lo + 1) lo + (bitAt m 4).toNat := by
  have hpair : bitsOf m (lo + 1) lo = 2 * getBit m (lo + 1) + getBit m lo := by
    simp only [bitsOf, getBit, getBits, Nat.sub_self, Nat.pow_succ, ← Nat.div_div_eq_div_mul]
    rw [Nat.add_sub_cancel_left]
    omega
  rw [hpair, ← getBit_eq_toNat_bitAt]
  omega

section
variable {m : Nat}

theorem parseBlockMode_void (hv : bitsOf m 8 0 = 0x1FC) :
    parseBlockMode m = { BlockModeInfo.empty with isVoidExtent := true } := if_pos hv

theorem parseBlockMode_reserved (hv : bitsOf m 8 0 ≠ 0x1FC)
    (hr : (bitsOf m 1 0 = 0 ∧ bitsOf m 8 6 = 7) ∨ bitsOf m 3 0 = 0) :
    parseBlockMode m = { BlockModeInfo.empty with isError := true } := (if_neg hv).trans (if_pos hr)

theorem parseGridLow_eq : parseGridLow m = lowModeGrid (bitsOf m 3 2) (bitsOf m 8 7) (bitsOf m 6 5) := by
  have h7 : getBit m 7 = bitsOf m 8 7 % 2 := by unfold getBit getBits bitsOf; omega
  have h8 : getBit m 8 = 0 ↔ ¬ bitsOf m 8 7 / 2 = 1 := by unfold getBit getBits bitsOf; omega
  obtain h | h | h | h := bitsOf_two_cases m 3 2
  · simp only [parseGridLow, lowModeGrid, getBits_eq_bitsOf, h]
  · simp only [parseGridLow, lowModeGrid, getBits_eq_bitsOf, h]
  · simp only [parseGridLow, lowModeGrid, getBits_eq_bitsOf, h]
  · simp only [parseGridLow, lowModeGrid, getBits_eq_bitsOf, h, h7, h8, ite_not]

theorem parseGridHigh_eq (h87 : bitsOf m 8 7 ≠ 2) : parseGridHigh m = highModeGrid (bitsOf m 8 7) (bitsOf m 6 5) := by
  have h5 : getBit m 5 = 0 ↔ ¬ bitsOf m 6 5 % 2 = 1 := by unfold getBit getBits bitsOf; omega
  obtain h | h | h | h := bitsOf_two_cases m 8 7
  · simp only [parseGridHigh, highModeGrid, getBits_eq_bitsOf, h]
  · simp only [parseGridHigh, highModeGrid, getBits_eq_bitsOf, h]
  · exact absurd h h87
  · simp only [parseGridHigh, highModeGrid, getBits_eq_bitsOf, h, h5, ite_not]

theorem parseBlockMode_low (h10 : bitsOf m 1 0 ≠ 0) :
    parseBlockMode m = gridMode (parseGridLow m).1 (parseGridLow m).2 (2 * bitsOf m 1 0 + (bitAt m 4).toNat)
      (bitAt m 10) (bitAt m 9) := by
  have hv : bitsOf m 8 0 ≠ 0x1FC := by unfold bitsOf at *; omega
  have h30 : bitsOf m 3 0 ≠ 0 := by unfold bitsOf at *; omega
  rw [← range_eq]
  simp [parseBlockMode, getBits_eq_bitsOf, isBitSet_eq_bitAt, hv, h10, h30]

theorem parseBlockMode_high (h10 : bitsOf m 1 0 = 0) (h30 : bitsOf m 3 0 ≠ 0) (h86 : bitsOf m 8 6 ≠ 7) :
    parseBlockMode m =
      if bitsOf m 8 7 = 2 then
        gridMode (bitsOf m 6 5 + 6) (bitsOf m 10 9 + 6) (2 * bitsOf m 3 2 + (bitAt m 4).toNat) false false
      else
        gridMode (highModeGrid (bitsOf m 8 7) (bitsOf m 6 5)).1 (highModeGrid (bitsOf m 8 7) (bitsOf m 6 5)).2
          (2 * bitsOf m 3 2 + (bitAt m 4).toNat) (bitAt m 10) (bitAt m 9) := by
  have hv : bitsOf m 8 0 ≠ 0x1FC := by unfold bitsOf at *; omega
  rw [← range_eq]
  by_cases h87 : bitsOf m 8 7 = 2
  · simp [parseBlockMode, parseGridHigh, getBits_eq_bitsOf, hv, h10, h30, h86, h87]
  · simp [parseBlockMode, parseGridHigh_eq h87, getBits_eq_bitsOf, isBitSet_eq_bitAt, hv, h10, h30, h86, h87]

end

/-! ### What a normal mode parses to, and the row the decoder reads from it -/

section
variable {m : Nat} {bm : BlockModeInfo}

theorem NormalMode.parse (hm : NormalMode m bm) : parseBlockMode m = bm := by
  cases hm with
  | @low i q b a hi hq hb ha d h r0 =>
    have hq4 : (4 * i + q) % 4 = q ∧ (4 * i + q) / 4 = i := by omega
    obtain ⟨-, -, h10, h32, h65, h87, -, -, -⟩ := modeWord_bits hb ha d h r0 (show 4 * i + q < 16 by omega)
    obtain ⟨hd, hh, hr, -, -⟩ := modeWord_flags hb ha d h r0 (show 4 * i + q < 16 by omega)
    rw [hq4.1] at h10
    rw [hq4.2] at h32
    rw [parseBlockMode_low (by omega), parseGridLow_eq, h10, h32, h65, h87, hd, hh, hr]
  | @high q b a hq hb ha h9 h111 d h r0 =>
    have hq4 : 4 * q % 4 = 0 ∧ 4 * q / 4 = q := by omega
    obtain ⟨-, h30, h10, h32, h65, h87, -, h86, -⟩ := modeWord_bits hb ha d h r0 (show 4 * q < 16 by omega)
    obtain ⟨hd, hh, hr, -, -⟩ := modeWord_flags hb ha d h r0 (show 4 * q < 16 by omega)
    rw [parseBlockMode_high (by omega) (by omega) (by omega), h32, h65, h87, hd, hh, hr, hq4.2, if_neg h9]
  | @wide q a hq ha b1 b0 r0 =>
    have hq4 : 4 * q % 4 = 0 ∧ 4 * q / 4 = q := by omega
    obtain ⟨-, h30, h10, h32, h65, h87, -, h86, h109⟩ :=
      modeWord_bits (show 2 < 4 by omega) ha b1 b0 r0 (show 4 * q < 16 by omega)
    obtain ⟨-, -, hr, -, -⟩ := modeWord_flags (show 2 < 4 by omega) ha b1 b0 r0 (show 4 * q < 16 by omega)
    rw [parseBlockMode_high (by omega) (by omega) (by omega), h32, h65, h87, h109, hr, hq4.2, if_pos rfl]

theorem NormalMode.lt (hm : NormalMode m bm) : m < 2 ^ 11 := by
  cases hm with
  | low hi hq hb ha d h r0 => exact (modeWord_bits hb ha d h r0 (by omega)).1
  | high hq hb ha _ _ d h r0 => exact (modeWord_bits hb ha d h r0 (by omega)).1
  | wide hq ha b1 b0 r0 => exact (modeWord_bits (by omega) ha b1 b0 r0 (by omega)).1

theorem NormalMode.flags (hm : NormalMode m bm) : bm.isError = false ∧ bm.isVoidExtent = false := by
  cases hm <;> exact ⟨rfl, rfl⟩

/-- Every mode that is neither void-extent nor reserved is a normal one. -/
theorem exists_normalMode (hm : m < 2 ^ 11) (hr : ¬ ((bitsOf m 1 0 = 0 ∧ bitsOf m 8 6 = 7) ∨ bitsOf m 3 0 = 0)) :
    ∃ bm, NormalMode m bm := by
  have hb : bitsOf m 8 7 < 4 := bitsOf_lt m 8 7
  have ha : bitsOf m 6 5 < 4 := bitsOf_lt m 6 5
  have h32 : bitsOf m 3 2 < 4 := bitsOf_lt m 3 2
  have h10 : bitsOf m 1 0 < 4 := bitsOf_lt m 1 0
  have h30 : bitsOf m 3 0 = 4 * bitsOf m 3 2 + bitsOf m 1 0 := by unfold bitsOf; omega
  have h86 : bitsOf m 8 6 = bitsOf m 8 7 * 2 + bitsOf m 6 5 / 2 := by unfold bitsOf; omega
  have hword :
      m = modeWord (bitsOf m 3 0) (bitAt m 10) (bitAt m 9) (bitAt m 4) (bitsOf m 8 7) (bitsOf m 6 5) := by
    simp only [modeWord, encodeDHR, toNat_bitAt, bitsOf]
    omega
  rw [hword, h30]
  by_cases hlow : bitsOf m 1 0 = 0
  · rw [hlow, Nat.add_zero]
    by_cases h9 : bitsOf m 8 7 = 2
    · rw [h9]
      exact ⟨_, .wide (by omega) ha _ _ _⟩
    · exact ⟨_, .high (by omega) hb ha h9 (by omega) _ _ _⟩
  · exact ⟨_, .low h32 (by omega) hb ha _ _ _⟩

end

theorem exec_lowModeRow {i q b : Nat} (hi : i < 4) (hq : q = 1 ∨ q = 2 ∨ q = 3) (hb : b < 4) (a : Nat)
    (d h r0 : Bool) (s : State) :
    exec (lowModeRow (4 * i + q) d h r0 b a) s
      = acceptMode (gridMode (lowModeGrid i b a).1 (lowModeGrid i b a).2 (2 * q + r0.toNat) d h) s := by
  interval_cases i
  · obtain rfl | rfl | rfl := hq <;> rfl
  · obtain rfl | rfl | rfl := hq <;> rfl
  · obtain rfl | rfl | rfl := hq <;> rfl
  · have hb2 : b / 2 = 0 ∨ b / 2 = 1 := by omega
    obtain h2 | h2 := hb2 <;> obtain rfl | rfl | rfl := hq <;> simp only [lowModeRow, lowModeGrid, h2] <;> rfl

theorem exec_highModeRow {q b : Nat} (hq : q = 1 ∨ q = 2 ∨ q = 3) (hb : b < 4) (h9 : b ≠ 2) (a : Nat)
    (d h r0 : Bool) (s : State) :
    exec (highModeRow (4 * q) d h r0 b a) s
      = acceptMode (gridMode (highModeGrid b a).1 (highModeGrid b a).2 (2 * q + r0.toNat) d h) s := by
  interval_cases b
  · obtain rfl | rfl | rfl := hq <;> rfl
  · obtain rfl | rfl | rfl := hq <;> rfl
  · exact absurd rfl h9
  · simp only [highModeRow, highModeGrid]
    split <;> obtain rfl | rfl | rfl := hq <;> rfl

/-- The row read from a normal mode makes the checks of R306 to R308 on what the mode means. -/
theorem NormalMode.exec_row {m : Nat} {bm : BlockModeInfo} (hm : NormalMode m bm) (s : State) :
    exec (decodeBlockMode (BitVec.ofNat 128 m)) s = acceptMode bm s := by
  cases hm with
  | @low i q b a hi hq hb ha d h r0 =>
    rw [decodeBlockMode_modeWord_low hb ha d h r0 (by omega), exec_lowModeRow hi hq hb]
  | @high q b a hq hb ha h9 h111 d h r0 =>
    rw [decodeBlockMode_modeWord_high hb ha d h r0 (by omega) h111, exec_highModeRow hq hb h9]
  | @wide q a hq ha b1 b0 r0 =>
    rw [decodeBlockMode_modeWord_high (by omega) ha b1 b0 r0 (by omega) (by omega)]
    obtain rfl | rfl | rfl := hq <;> rfl

/-- The reserved modes are read as the six reserved rows (R162, R301). -/
theorem exec_decodeModeRow_reserved {m : Nat}
    (hr : (bitsOf m 1 0 = 0 ∧ bitsOf m 8 6 = 7) ∨ bitsOf m 3 0 = 0) (s : State) :
    exec (decodeModeRow m) s = errorBlock .reservedMode s := by
  unfold decodeModeRow
  by_cases h30 : bitsOf m 3 0 = 0
  · rw [if_pos h30]
    rfl
  rw [if_neg h30, if_pos (hr.resolve_right h30)]
  unfold decodeReserved111
  obtain h32 | h32 | h32 | h32 := bitsOf_two_cases m 3 2
  · unfold bitsOf at *
    omega
  · simp only [h32]
    rfl
  · simp only [h32]
    rfl
  · simp only [h32]
    split <;> rfl

/-! ### The writer -/

theorem rangeCode_weightIse : ∀ r < 8, 2 ≤ r → ∀ high : Bool,
    rangeCode (iseRangeMax (weightIse r high)) = some (r, high) := by decide

theorem numBits_le_of_iseRangeMax_le {p : IseParams} (h : iseRangeMax p ≤ 31) : p.numBits ≤ 5 := by
  by_contra hn
  have hpow : 2 ^ 6 ≤ 2 ^ p.numBits := Nat.pow_le_pow_right (by decide) (by omega)
  revert h
  unfold iseRangeMax
  split <;> omega

theorem weightIse_of_rangeCode {ise : IseParams} {r : Nat} {high : Bool}
    (h : rangeCode (iseRangeMax ise) = some (r, high)) : 2 ≤ r ∧ r < 8 ∧ weightIse r high = ise := by
  have hmax : iseRangeMax ise ≤ 31 := by
    revert h
    unfold rangeCode
    split <;> intro h
    case h_13 => cases h
    all_goals omega
  have hn := numBits_le_of_iseRangeMax_le hmax
  obtain ⟨mode, n⟩ := ise
  dsimp only at hn
  interval_cases n <;> cases mode <;> cases h <;> decide

/-- What the writer makes of a layout and a range. -/
theorem writeBlockMode_eq {w h q l : Nat} {d high r0 : Bool} (hq : q = 1 ∨ q = 2 ∨ q = 3)
    (hl : layoutOf w h = some l) (h9 : l = 9 → d = false ∧ high = false) :
    writeBlockMode w h (weightIse (2 * q + r0.toNat) high) d
      = some (layoutBits l w h q d high + r0.toNat * 2 ^ 4) := by
  have hr0 := r0.toNat_le
  have hq2 : (2 * q + r0.toNat) / 2 = q ∧ (2 * q + r0.toNat) % 2 = r0.toNat := by omega
  have hn : ¬ (l = 9 ∧ (d = true ∨ high = true)) := by
    rintro ⟨hl9, hd⟩
    simp [h9 hl9] at hd
  simp only [writeBlockMode, rangeCode_weightIse (2 * q + r0.toNat) (by omega) (by omega), hl, if_neg hn, hq2]

/-- The layout of a mode with bits 1:0 not 00. -/
def lowLayout (i b : Nat) : Nat := if i = 3 then 3 + b / 2 else i

/-- The layout of a mode with bits 1:0 = 00, but for layout 9. -/
def highLayout (b a : Nat) : Nat := if b = 3 then 7 + a % 2 else 5 + b

theorem layoutOf_lowModeGrid : ∀ i < 4, ∀ b < 4, ∀ a < 4,
    layoutOf (lowModeGrid i b a).1 (lowModeGrid i b a).2 = some (lowLayout i b) := by decide

theorem layoutOf_highModeGrid : ∀ b < 4, b ≠ 2 → ∀ a < 4,
    layoutOf (highModeGrid b a).1 (highModeGrid b a).2 = some (highLayout b a) := by decide

theorem layoutOf_wideGrid : ∀ b < 4, ∀ a < 4, layoutOf (a + 6) (b + 6) = some 9 := by decide

theorem layoutBits_low {i b : Nat} (hi : i < 4) (hb : b < 4) (q a : Nat) (d h r0 : Bool) :
    layoutBits (lowLayout i b) (lowModeGrid i b a).1 (lowModeGrid i b a).2 q d h + r0.toNat * 2 ^ 4
      = modeWord (4 * i + q) d h r0 b a := by
  interval_cases i
  · simp [layoutBits, lowLayout, lowModeGrid, modeWord, encodeDHR]; omega
  · simp [layoutBits, lowLayout, lowModeGrid, modeWord, encodeDHR]; omega
  · simp [layoutBits, lowLayout, lowModeGrid, modeWord, encodeDHR]; omega
  · have hb2 : b / 2 = 0 ∨ b / 2 = 1 := by omega
    obtain h2 | h2 := hb2 <;> simp [layoutBits, lowLayout, lowModeGrid, modeWord, encodeDHR, h2] <;> omega

theorem layoutBits_high {b a : Nat} (hb : b < 4) (ha : a < 4) (h9 : b ≠ 2) (h111 : b * 2 + a / 2 ≠ 7) (q : Nat)
    (d h r0 : Bool) :
    layoutBits (highLayout b a) (highModeGrid b a).1 (highModeGrid b a).2 q d h + r0.toNat * 2 ^ 4
      = modeWord (4 * q) d h r0 b a := by
  interval_cases b
  · simp [layoutBits, highLayout, highModeGrid, modeWord, encodeDHR]; omega
  · simp [layoutBits, highLayout, highModeGrid, modeWord, encodeDHR]; omega
  · exact absurd rfl h9
  · have ha2 : a = 0 ∨ a = 1 := by omega
    obtain rfl | rfl := ha2 <;> simp [layoutBits, highLayout, modeWord, encodeDHR] <;> omega

/-- The writer undoes the parser on every normal mode. -/
theorem NormalMode.write {m : Nat} {bm : BlockModeInfo} (hm : NormalMode m bm) :
    writeBlockMode bm.gridW bm.gridH bm.ise bm.isDualPlane = some m := by
  cases hm with
  | @low i q b a hi hq hb ha d h r0 =>
    rw [← layoutBits_low hi hb]
    refine writeBlockMode_eq hq (layoutOf_lowModeGrid i hi b hb a ha) fun hl => ?_
    unfold lowLayout at hl
    split at hl <;> omega
  | @high q b a hq hb ha h9 h111 d h r0 =>
    rw [← layoutBits_high hb ha h9 h111]
    refine writeBlockMode_eq hq (layoutOf_highModeGrid b hb h9 a ha) fun hl => ?_
    unfold highLayout at hl
    split at hl <;> omega
  | @wide q a hq ha b1 b0 r0 =>
    have hb1 := b1.toNat_le
    have hb0 := b0.toNat_le
    have hl := layoutOf_wideGrid (b1.toNat * 2 + b0.toNat) (by omega) a ha
    refine (writeBlockMode_eq hq hl fun _ => ⟨rfl, rfl⟩).trans ?_
    simp only [layoutBits, modeWord, encodeDHR]
    congr 1
    omega

theorem within_iff (x lo hi : Nat) : within x lo hi = true ↔ lo ≤ x ∧ x ≤ hi := by
  simp [within]

/-- A grid that a layout contains is that of some fields `b` and `a`: layouts 0 to 9 in the order of R175. -/
theorem layoutOf_cases {w h l : Nat} (hl : layoutOf w h = some l) :
    (∃ i < 4, ∃ b < 4, ∃ a < 4, lowModeGrid i b a = (w, h))
      ∨ (∃ b < 4, ∃ a < 4, b ≠ 2 ∧ b * 2 + a / 2 ≠ 7 ∧ highModeGrid b a = (w, h))
      ∨ (l = 9 ∧ ∃ b < 4, ∃ a < 4, a + 6 = w ∧ b + 6 = h) := by
  unfold layoutOf at hl
  simp only [Bool.and_eq_true, within_iff, beq_iff_eq] at hl
  repeat' split at hl
  · exact .inl ⟨0, by omega, w - 4, by omega, h - 2, by omega, by simp only [lowModeGrid, Prod.mk.injEq]; omega⟩
  · exact .inl ⟨1, by omega, w - 8, by omega, h - 2, by omega, by simp only [lowModeGrid, Prod.mk.injEq]; omega⟩
  · exact .inl ⟨2, by omega, h - 8, by omega, w - 2, by omega, by simp only [lowModeGrid, Prod.mk.injEq]; omega⟩
  · refine .inl ⟨3, by omega, h - 6, by omega, w - 2, by omega, (if_neg (by omega)).trans ?_⟩
    rw [Prod.mk.injEq]
    omega
  · refine .inl ⟨3, by omega, w, by omega, h - 2, by omega, (if_pos (by omega)).trans ?_⟩
    rw [Prod.mk.injEq]
    omega
  · exact .inr (.inl ⟨0, by omega, h - 2, by omega, by omega, by omega,
      by simp only [highModeGrid, Prod.mk.injEq]; omega⟩)
  · exact .inr (.inl ⟨1, by omega, w - 2, by omega, by omega, by omega,
      by simp only [highModeGrid, Prod.mk.injEq]; omega⟩)
  · exact .inr (.inl ⟨3, by omega, 0, by omega, by omega, by omega, by simp [highModeGrid]; omega⟩)
  · exact .inr (.inl ⟨3, by omega, 1, by omega, by omega, by omega, by simp [highModeGrid]; omega⟩)
  · exact .inr (.inr ⟨(Option.some.inj hl).symm, h - 6, by omega, w - 6, by omega, by omega, by omega⟩)
  · cases hl

/-- Every grid of a layout, with any range and flags that the layout can hold, is that of a normal mode. -/
theorem exists_normalMode_of_layout {w h q l : Nat} (hq : q = 1 ∨ q = 2 ∨ q = 3) (r0 d high : Bool)
    (hl : layoutOf w h = some l) (h9 : l = 9 → d = false ∧ high = false) :
    ∃ m, NormalMode m (gridMode w h (2 * q + r0.toNat) d high) := by
  obtain ⟨i, hi, b, hb, a, ha, hg⟩ | ⟨b, hb, a, ha, hb2, h111, hg⟩ | ⟨rfl, b, hb, a, ha, rfl, rfl⟩ :=
    layoutOf_cases hl
  · have hm := NormalMode.low hi hq hb ha d high r0
    rw [hg] at hm
    exact ⟨_, hm⟩
  · have hm := NormalMode.high hq hb ha hb2 h111 d high r0
    rw [hg] at hm
    exact ⟨_, hm⟩
  · obtain ⟨rfl, rfl⟩ := h9 rfl
    have hm := NormalMode.wide hq ha (bitAt b 1) (bitAt b 0) r0
    have hb2 : (bitAt b 1).toNat * 2 + (bitAt b 0).toNat = b := by
      simp only [toNat_bitAt]
      omega
    rw [hb2] at hm
    exact ⟨_, hm⟩

/-- The writer's preconditions (R174) give a normal mode with what is to be written. -/
theorem exists_normalMode_of_rangeCode {w h r l : Nat} {ise : IseParams} {d high : Bool}
    (hr : rangeCode (iseRangeMax ise) = some (r, high)) (hl : layoutOf w h = some l)
    (h9 : l = 9 → d = false ∧ high = false) :
    ∃ m, NormalMode m { BlockModeInfo.empty with isDualPlane := d, gridW := w, gridH := h, ise := ise } := by
  obtain ⟨hr2, hr8, rfl⟩ := weightIse_of_rangeCode hr
  obtain ⟨m, hm⟩ := exists_normalMode_of_layout (q := r / 2) (by omega) (bitAt r 0) d high hl h9
  have hr0 : 2 * (r / 2) + (bitAt r 0).toNat = r := by
    rw [toNat_bitAt]
    omega
  rw [hr0] at hm
  exact ⟨m, hm⟩

/-- Where the writer makes a value, the preconditions of R174 hold. -/
theorem writeBlockMode_cases {w h m : Nat} {ise : IseParams} {d : Bool} (hw : writeBlockMode w h ise d = some m) :
    ∃ r high l, rangeCode (iseRangeMax ise) = some (r, high) ∧ layoutOf w h = some l
      ∧ (l = 9 → d = false ∧ high = false) := by
  unfold writeBlockMode at hw
  split at hw
  case h_1 r high l hr hl =>
    refine ⟨r, high, l, hr, hl, fun h9 => ?_⟩
    split at hw
    · cases hw
    · simp_all
  case h_2 => cases hw

/-- The twelve ranges (R176); those that have `h` = 0 are the ones up to 7. -/
theorem rangeCode_of_mem : ∀ n ∈ [1, 2, 3, 4, 5, 7, 9, 11, 15, 19, 23, 31],
    ∃ r < 8, ∃ high, rangeCode n = some (r, high) ∧ (n ≤ 7 → high = false) := by decide

end Sys2Proof.Machine

open Sys2Proof Sys2Proof.Machine

/-- Settles O6: the void-extent sentinel, the reserved modes and the normal modes, in the order in which both the
decoder and the parser tell them apart. -/
theorem blockModeRowsFollowTheParser : Obligations.BlockModeRowsFollowTheParser := by
  intro blk s bm
  have hbm : bm = parseBlockMode (bitsOf blk.toNat 10 0) := rfl
  generalize hm : bitsOf blk.toNat 10 0 = m at hbm
  have hlt : m < 2 ^ 11 := hm ▸ bitsOf_lt blk.toNat 10 0
  have hv : bitsOf blk.toNat 8 0 = bitsOf m 8 0 := by
    rw [← hm]
    unfold bitsOf
    omega
  rw [decodeBlockMode, hm, hv]
  by_cases hvoid : bitsOf m 8 0 = 0x1FC
  · rw [if_pos hvoid, hbm, parseBlockMode_void hvoid]
    rfl
  rw [if_neg hvoid]
  by_cases hr : (bitsOf m 1 0 = 0 ∧ bitsOf m 8 6 = 7) ∨ bitsOf m 3 0 = 0
  · rw [hbm, parseBlockMode_reserved hvoid hr]
    exact exec_decodeModeRow_reserved hr s
  · obtain ⟨bm', hn⟩ := exists_normalMode hlt hr
    obtain ⟨herr, hve⟩ := hn.flags
    rw [hbm, hn.parse, ← decodeBlockMode_ofNat hlt hvoid, hn.exec_row, herr, hve]
    rfl

/-- Settles O7. (a) A mode that parses to neither void-extent nor reserved is a normal one, and the writer undoes the
parser on those. (b), (c) What the writer is given under its preconditions is what some normal mode means, so that it
makes that mode, which parses back. -/
theorem blockModeInverses : Obligations.BlockModeInverses := by
  refine ⟨?_, ?_, ?_⟩
  · intro m hm herr hve
    have hvoid : bitsOf m 8 0 ≠ 0x1FC := fun h => by simp [parseBlockMode_void h] at hve
    obtain ⟨bm, hn⟩ := exists_normalMode hm fun hr => by simp [parseBlockMode_reserved hvoid hr] at herr
    rw [hn.parse]
    exact hn.write
  · intro w h ise d m hw
    obtain ⟨r, high, l, hr, hl, h9⟩ := writeBlockMode_cases hw
    obtain ⟨m', hn⟩ := exists_normalMode_of_rangeCode hr hl h9
    obtain rfl : m' = m := Option.some.inj (hn.write.symm.trans hw)
    rw [hn.parse]
    exact ⟨hn.lt, rfl, rfl, rfl, rfl, rfl, rfl⟩
  · intro w h ise d hrange hlayout h9
    obtain ⟨r, -, high, hr, hhigh⟩ := rangeCode_of_mem _ hrange
    obtain ⟨l, hl⟩ := Option.isSome_iff_exists.mp hlayout
    obtain ⟨m, hn⟩ := exists_normalMode_of_rangeCode hr hl fun h => by
      obtain ⟨hd, hle⟩ := h9 (h ▸ hl)
      exact ⟨hd, hhigh hle⟩
    exact Option.isSome_of_eq_some hn.write
end

section
/-! The CEM rows that always have more than 18 values: O17. -/

namespace Sys2Proof.Machine

/-- A whole-block error that is not VE_INF_NAN: the error colour everywhere, and no new FAULT (R404). -/
theorem errorBlock_decodedAs_of_ne {c : Cause} (hc : c ≠ .veInfNan) (s : State) :
    ∃ t, errorBlock c s = .next t ∧ decodedAs s t c false (fun _ _ => errorColour (cfgSrgb s.cfg)) := by
  have h := errorBlock_decodedAs c s
  rwa [decide_eq_false hc] at h

/-- With more than 18 values a block fails R310 at the latest; the check of R309, here `d`, comes first. -/
theorem assembleBlock_crowded {nv : NormalValues} {s : State} {d : Prop} [Decidable d]
    (hd : nv.nparts = 4 ∧ s.bm.isDualPlane = true ↔ d) (hv : 18 < nv.ncev) (fs : List (List Nat → EndpointPair))
    (blk : Nat) :
    ∃ t, assembleBlock nv fs blk s = .next t
      ∧ decodedAs s t (if d then .dual4Part else .cevCount) false (fun _ _ => errorColour (cfgSrgb s.cfg)) := by
  rw [assembleBlock, if_pos hv]
  by_cases h : d
  · rw [if_pos (hd.mpr h), if_pos h]
    exact errorBlock_decodedAs_of_ne (by decide) s
  · rw [if_neg (mt hd.mp h), if_neg h]
    exact errorBlock_decodedAs_of_ne (by decide) s

/-! ### The value counts of the rows -/

theorem exec_crowdedRows {row} (hrow : row ∈ crowdedRows) (seed : BitVec 10) (data : BitVec 99) (s : State) :
    exec (row.2.2.2 seed data) s = sharedPartitions row.1 row.2.1 row.2.2.1 seed data s := by
  fin_cases hrow <;> rfl

theorem crowdedRows_values_gt : ∀ row ∈ crowdedRows, 18 < row.1 * cemNumValues row.2.1 := by decide

/-- The class of an independent CEM is `SEL` or `SEL - 1` (R194), so its values are at least `2 * SEL` (R190). -/
theorem two_mul_sel_le_values (blk n sel extra p : Nat) :
    2 * sel ≤ cemNumValues (independentCem blk n sel extra p) := by
  unfold cemNumValues independentCem
  omega

theorem values_le_cemsValueCount_independent (blk n sel extra : Nat) :
    n * (2 * sel) ≤ cemsValueCount ((List.range n).map (independentCem blk n sel extra)) := by
  have h := List.card_nsmul_le_sum (((List.range n).map (independentCem blk n sel extra)).map cemNumValues) (2 * sel)
    (by simpa using fun p _ => two_mul_sel_le_values blk n sel extra p)
  simpa [cemsValueCount] using h

theorem exec_p4IndepSel3 (seed : BitVec 10) (str4 : BitVec 4) (data : BitVec 99) (s : State) :
    exec (.p4IndepSel3 seed str4 data) s = independentPartitions 4 3 seed str4 data s := rfl

end Sys2Proof.Machine

open Sys2Proof Sys2Proof.Machine

/-- Settles O17: the twelve shared rows have more than 18 values, and four CEMs with `SEL` = 3 have at least 24. -/
theorem crowdedRowsAreErrorBlocks : Obligations.CrowdedRowsAreErrorBlocks := by
  constructor
  · intro row hrow seed data s
    rw [exec_crowdedRows hrow]
    exact assembleBlock_crowded Iff.rfl
      ((crowdedRows_values_gt row hrow).trans_eq (cemsValueCount_replicate row.1 row.2.1).symm) _ _
  · intro seed str4 data s
    rw [exec_p4IndepSel3, independentPartitions_eq (by decide) (by decide)]
    exact assembleBlock_crowded (and_iff_right rfl)
      (Nat.lt_of_lt_of_le (by decide : 18 < 4 * (2 * 3)) (values_le_cemsValueCount_independent _ 4 3 _)) _ _
end

section
/-! The endpoint formulas: the ranges of their channels and the tie rule of the direct ones: O39, O40. -/

namespace Sys2Proof.Machine

/-! ### Channels in range -/

/-- The colour channels are at most `c`, and the alpha channel meets `alpha`. -/
def Rgba.Fits (e : Rgba) (c : Nat) (alpha : Nat → Prop) : Prop := e.r ≤ c ∧ e.g ≤ c ∧ e.b ≤ c ∧ alpha e.a

/-- What R210 and R248 promise of a pair: its HDR flag, and both endpoints in range. -/
def EndpointPair.Fits (p : EndpointPair) (hdr : Bool) (c : Nat) (alpha : Nat → Prop) : Prop :=
  p.isHdr = hdr ∧ ∀ e ∈ [p.e0, p.e1], e.Fits c alpha

theorem ldrPair_fits {e0 e1 : Rgba} {c : Nat} {alpha : Nat → Prop} (h0 : e0.Fits c alpha) (h1 : e1.Fits c alpha) :
    (ldrPair e0 e1).Fits false c alpha := ⟨rfl, by simp [ldrPair, h0, h1]⟩

theorem hdrPair_fits {e0 e1 : Rgba} {c : Nat} {alpha : Nat → Prop} (h0 : e0.Fits c alpha) (h1 : e1.Fits c alpha) :
    (hdrPair e0 e1).Fits true c alpha := ⟨rfl, by simp [hdrPair, h0, h1]⟩

/-! ### The shared steps (R197 to R199, R243) -/

theorem getD_le_of_forall {v : List Nat} {m : Nat} (hv : ∀ x ∈ v, x ≤ m) (i : Nat) : v.getD i 0 ≤ m := by
  rw [List.getD_eq_getElem?_getD]
  cases h : v[i]? with
  | none => exact Nat.zero_le m
  | some x => exact hv x (List.mem_of_getElem? h)

theorem clamp8_le (x : Int) : clamp8 x ≤ 255 := by
  unfold clamp8
  omega

theorem clamp12_le (x : Int) : clamp12 x ≤ 4095 := by
  unfold clamp12
  omega

theorem clamp8Rgba_fits (r g b a : Int) : (clamp8Rgba r g b a).Fits 255 (· ≤ 255) :=
  ⟨clamp8_le r, clamp8_le g, clamp8_le b, clamp8_le a⟩

theorem blueContract_fits {r g b a : Nat} (hr : r ≤ 255) (hg : g ≤ 255) (hb : b ≤ 255) (ha : a ≤ 255) :
    (blueContract r g b a).Fits 255 (· ≤ 255) :=
  ⟨show (r + b) / 2 ≤ 255 by omega, show (g + b) / 2 ≤ 255 by omega, hb, ha⟩

/-- A byte scaled by a byte is a byte (R204). -/
theorem mul_div_256_le {x y : Nat} (hx : x ≤ 255) (hy : y ≤ 255) : x * y / 256 ≤ 255 := by
  have h := Nat.mul_le_mul hx hy
  omega

theorem swapMajor_fits {e : Rgba} {c : Nat} {alpha : Nat → Prop} (major : Nat) (h : e.Fits c alpha) :
    (swapMajor major e).Fits c alpha := by
  obtain ⟨hr, hg, hb, ha⟩ := h
  unfold swapMajor
  split
  · exact ⟨hg, hr, hb, ha⟩
  · split
    · exact ⟨hb, hg, hr, ha⟩
    · exact ⟨hr, hg, hb, ha⟩

/-! ### The formulas that clamp or take bit fields, in range whatever the values -/

theorem ldrLumaBaseOffset_fits (v : List Nat) : (ldrLumaBaseOffset v).Fits false 255 (· ≤ 255) :=
  ldrPair_fits (clamp8Rgba_fits ..) (clamp8Rgba_fits ..)

theorem ldrBaseOffset_fits (v : List Nat) (a da : Int) : (ldrBaseOffset v a da).Fits false 255 (· ≤ 255) := by
  dsimp only [ldrBaseOffset]
  split <;> exact ldrPair_fits (clamp8Rgba_fits ..) (clamp8Rgba_fits ..)

theorem hdrLumSmall_fits (v : List Nat) : (hdrLumSmall v).Fits true 4095 (· = 0x780) := by
  have hy0 : (if getBit (v.getD 0 0) 7 = 1 then getBits (v.getD 1 0) 5 7 * 2 ^ 9 + getBits (v.getD 0 0) 0 6 * 4
      else getBits (v.getD 1 0) 4 7 * 2 ^ 8 + getBits (v.getD 0 0) 0 6 * 2) ≤ 4095 := by
    have hlow : getBits (v.getD 0 0) 0 6 < 128 := getBits_lt _ 0 6
    have hthree : getBits (v.getD 1 0) 5 7 < 8 := getBits_lt _ 5 7
    have hfour : getBits (v.getD 1 0) 4 7 < 16 := getBits_lt _ 4 7
    split <;> omega
  have htop (x : Nat) : min x 0xFFF ≤ 4095 := Nat.min_le_right x 4095
  exact hdrPair_fits ⟨hy0, hy0, hy0, rfl⟩ ⟨htop _, htop _, htop _, rfl⟩

theorem cem7Result_fits (majcomp : Nat) (red green blue scale : Int) :
    (cem7Result majcomp red green blue scale).Fits true 4095 (· = 0x780) :=
  hdrPair_fits ⟨clamp12_le _, clamp12_le _, clamp12_le _, rfl⟩ ⟨clamp12_le _, clamp12_le _, clamp12_le _, rfl⟩

theorem hdrRgbBaseScale_fits (v : List Nat) : (hdrRgbBaseScale v).Fits true 4095 (· = 0x780) := by
  dsimp only [hdrRgbBaseScale]
  split <;> exact cem7Result_fits ..

/-- The two alphas of CEM 15 have twelve bits: in mode `m` the first one has `m + 8` bits before its shift by
`4 - m` (R246). -/
theorem hdrAlpha_le (v6 v7 : Nat) : (hdrAlpha v6 v7).1 ≤ 4095 ∧ (hdrAlpha v6 v7).2 ≤ 4095 := by
  have h6 : getBits v6 0 6 < 2 ^ 7 := getBits_lt v6 0 6
  have h7 : getBits v7 0 6 < 2 ^ 7 := getBits_lt v7 0 6
  dsimp only [hdrAlpha]
  split
  · exact ⟨by omega, by omega⟩
  next hmode =>
    refine ⟨?_, clamp12_le _⟩
    have h6b := getBit_le v6 7
    have h7b := getBit_le v7 7
    generalize hm : 2 * getBit v7 7 + getBit v6 7 = mode at *
    have hlow : getBits v6 0 6 < 2 ^ (mode + 8) := h6.trans (Nat.pow_lt_pow_right (by decide) (by omega))
    have hhigh : getBits v7 0 6 * 2 ^ (mode + 1) < 2 ^ (mode + 8) := by
      rw [show mode + 8 = 7 + (mode + 1) by omega, Nat.pow_add 2 7]
      exact Nat.mul_lt_mul_of_pos_right h7 (Nat.two_pow_pos _)
    have hor := Nat.or_lt_two_pow hlow (Nat.lt_of_le_of_lt (Nat.and_le_left (m := 0x780)) hhigh)
    refine Nat.le_of_lt_succ ?_
    calc _ < 2 ^ (mode + 8) * 2 ^ (4 - mode) := Nat.mul_lt_mul_of_pos_right hor (Nat.two_pow_pos _)
      _ = 4095 + 1 := by rw [← Nat.pow_add, show mode + 8 + (4 - mode) = 12 by omega]

section
variable {v : List Nat} (hv : ∀ x ∈ v, x ≤ 255)
include hv

/-! ### The LDR formulas (R210) -/

theorem ldrLumDirect_fits : (ldrLumDirect v).Fits false 255 (· ≤ 255) :=
  have h0 := getD_le_of_forall hv 0
  have h1 := getD_le_of_forall hv 1
  ldrPair_fits ⟨h0, h0, h0, Nat.le_refl _⟩ ⟨h1, h1, h1, Nat.le_refl _⟩

theorem ldrLumBaseOffset_fits : (ldrLumBaseOffset v).Fits false 255 (· ≤ 255) := by
  have h0 := getD_le_of_forall hv 0
  have hbase : v.getD 0 0 / 4 ||| v.getD 1 0 &&& 0xC0 ≤ 255 :=
    Nat.le_of_lt_succ (Nat.or_lt_two_pow (n := 8) (by omega) (Nat.and_lt_two_pow _ (by decide)))
  have htop (x : Nat) : min x 0xFF ≤ 255 := Nat.min_le_right x 255
  exact ldrPair_fits ⟨hbase, hbase, hbase, Nat.le_refl _⟩ ⟨htop _, htop _, htop _, Nat.le_refl _⟩

theorem ldrLumaDirect_fits : (ldrLumaDirect v).Fits false 255 (· ≤ 255) :=
  have h0 := getD_le_of_forall hv 0
  have h1 := getD_le_of_forall hv 1
  ldrPair_fits ⟨h0, h0, h0, getD_le_of_forall hv 2⟩ ⟨h1, h1, h1, getD_le_of_forall hv 3⟩

theorem ldrRgbBaseScale_fits : (ldrRgbBaseScale v).Fits false 255 (· ≤ 255) :=
  have hx := getD_le_of_forall hv
  ldrPair_fits
    ⟨mul_div_256_le (hx 0) (hx 3), mul_div_256_le (hx 1) (hx 3), mul_div_256_le (hx 2) (hx 3), Nat.le_refl _⟩
    ⟨hx 0, hx 1, hx 2, Nat.le_refl _⟩

theorem ldrRgbBaseScale2a_fits : (ldrRgbBaseScale2a v).Fits false 255 (· ≤ 255) :=
  have hx := getD_le_of_forall hv
  ldrPair_fits
    ⟨mul_div_256_le (hx 0) (hx 3), mul_div_256_le (hx 1) (hx 3), mul_div_256_le (hx 2) (hx 3), hx 4⟩
    ⟨hx 0, hx 1, hx 2, hx 5⟩

theorem ldrDirect_fits {a0 a1 : Nat} (h0 : a0 ≤ 255) (h1 : a1 ≤ 255) :
    (ldrDirect v a0 a1).Fits false 255 (· ≤ 255) := by
  have hx := getD_le_of_forall hv
  dsimp only [ldrDirect]
  split
  · exact ldrPair_fits ⟨hx 0, hx 2, hx 4, h0⟩ ⟨hx 1, hx 3, hx 5, h1⟩
  · exact ldrPair_fits (blueContract_fits (hx 1) (hx 3) (hx 5) h1) (blueContract_fits (hx 0) (hx 2) (hx 4) h0)

/-- R210: the formulas of the ten LDR modes. -/
theorem endpointFormula_ldr_fits :
    ∀ cem ∈ [0, 1, 4, 5, 6, 8, 9, 10, 12, 13], (endpointFormula cem v).Fits false 255 (· ≤ 255) := by
  simp only [List.mem_cons, List.not_mem_nil, or_false]
  rintro cem (rfl | rfl | rfl | rfl | rfl | rfl | rfl | rfl | rfl | rfl)
  · exact ldrLumDirect_fits hv
  · exact ldrLumBaseOffset_fits hv
  · exact ldrLumaDirect_fits hv
  · exact ldrLumaBaseOffset_fits v
  · exact ldrRgbBaseScale_fits hv
  · exact ldrDirect_fits hv (Nat.le_refl _) (Nat.le_refl _)
  · exact ldrBaseOffset_fits v 0xFF 0
  · exact ldrRgbBaseScale2a_fits hv
  · exact ldrDirect_fits hv (getD_le_of_forall hv 6) (getD_le_of_forall hv 7)
  · exact ldrBaseOffset_fits v _ _

/-! ### The HDR formulas (R248) -/

theorem hdrLumLarge_fits : (hdrLumLarge v).Fits true 4095 (· = 0x780) := by
  have h0 := getD_le_of_forall hv 0
  have h1 := getD_le_of_forall hv 1
  have hy0 : (if v.getD 0 0 ≤ v.getD 1 0 then v.getD 0 0 * 16 else v.getD 1 0 * 16 + 8) ≤ 4095 := by
    split <;> omega
  have hy1 : (if v.getD 0 0 ≤ v.getD 1 0 then v.getD 1 0 * 16 else v.getD 0 0 * 16 - 8) ≤ 4095 := by
    split <;> omega
  exact hdrPair_fits ⟨hy0, hy0, hy0, rfl⟩ ⟨hy1, hy1, hy1, rfl⟩

/-- CEM 11, CEM 14 and CEM 15: whatever the two alphas meet, the endpoints meet. -/
theorem hdrDirect_fits {alpha : Nat → Prop} {a0 a1 : Nat} (h0 : alpha a0) (h1 : alpha a1) :
    (hdrDirect v a0 a1).Fits true 4095 alpha := by
  have hx (i : Nat) : v.getD i 0 * 16 ≤ 4095 := by
    have := getD_le_of_forall hv i
    omega
  have hblue (x : Nat) : getBits x 0 6 * 32 ≤ 4095 := by
    have : getBits x 0 6 < 128 := getBits_lt x 0 6
    omega
  dsimp only [hdrDirect]
  split
  · exact hdrPair_fits ⟨hx 0, hx 2, hblue _, h0⟩ ⟨hx 1, hx 3, hblue _, h1⟩
  · exact hdrPair_fits (swapMajor_fits _ ⟨clamp12_le _, clamp12_le _, clamp12_le _, h0⟩)
      (swapMajor_fits _ ⟨clamp12_le _, clamp12_le _, clamp12_le _, h1⟩)

theorem hdrRgbHdrAlpha_fits : (hdrRgbHdrAlpha v).Fits true 4095 (· ≤ 4095) :=
  have halpha := hdrAlpha_le (v.getD 6 0) (v.getD 7 0)
  hdrDirect_fits hv halpha.1 halpha.2

/-- R248: the modes with the constant alpha. -/
theorem endpointFormula_constAlpha_fits :
    ∀ cem ∈ [2, 3, 7, 11], (endpointFormula cem v).Fits true 4095 (· = 0x780) := by
  simp only [List.mem_cons, List.not_mem_nil, or_false]
  rintro cem (rfl | rfl | rfl | rfl)
  · exact hdrLumLarge_fits hv
  · exact hdrLumSmall_fits v
  · exact hdrRgbBaseScale_fits v
  · exact hdrDirect_fits hv rfl rfl

end

/-- The classes of modes that R210 and R248 tell apart. -/
theorem cem_classes : ∀ cem < 16,
    (cem ∈ [0, 1, 4, 5, 6, 8, 9, 10, 12, 13] ∧ cemIsHdr cem = false ∧ cem ≠ 14 ∧ cem ∉ [2, 3, 7, 11])
    ∨ (cem ∈ [2, 3, 7, 11] ∧ cemIsHdr cem = true ∧ cem ≠ 14) ∨ cem = 14 ∨ cem = 15 := by decide

/-! ### The tie rule (R205, R208) -/

/-- The direct formula on six values or more: the order of the sums decides between the values as they are and the
values swapped and contracted. -/
theorem ldrDirect_cons (v0 v1 v2 v3 v4 v5 a0 a1 : Nat) (rest : List Nat) :
    ldrDirect (v0 :: v1 :: v2 :: v3 :: v4 :: v5 :: rest) a0 a1
      = if v0 + v2 + v4 ≤ v1 + v3 + v5 then ⟨⟨v0, v2, v4, a0⟩, ⟨v1, v3, v5, a1⟩, false⟩
        else ⟨⟨(v1 + v5) / 2, (v3 + v5) / 2, v5, a1⟩, ⟨(v0 + v4) / 2, (v2 + v4) / 2, v4, a0⟩, false⟩ := rfl

end Sys2Proof.Machine

open Sys2Proof Sys2Proof.Machine

/-- Settles O39: one case for each class of modes. -/
theorem endpointChannelsInRange : Obligations.EndpointChannelsInRange := by
  intro cem v hcem hv p
  obtain ⟨hmem, hldr, h14, hconst⟩ | ⟨hconst, hhdr, h14⟩ | rfl | rfl := cem_classes cem hcem
  · obtain ⟨hflag, hfits⟩ := endpointFormula_ldr_fits hv cem hmem
    refine ⟨hflag.trans hldr.symm, fun e he => ?_⟩
    exact ⟨fun _ => hfits e he, by simp [hldr], fun h => absurd h h14, fun h => absurd h hconst⟩
  · obtain ⟨hflag, hfits⟩ := endpointFormula_constAlpha_fits hv cem hconst
    refine ⟨hflag.trans hhdr.symm, fun e he => ?_⟩
    obtain ⟨hr, hg, hb, ha⟩ := hfits e he
    exact ⟨by simp [hhdr], fun _ => ⟨hr, hg, hb, ha ▸ by decide⟩, fun h => absurd h h14, fun _ => ha⟩
  · obtain ⟨hflag, hfits⟩ : p.Fits true 4095 (· ≤ 255) :=
      hdrDirect_fits hv (getD_le_of_forall hv 6) (getD_le_of_forall hv 7)
    refine ⟨hflag, fun e he => ?_⟩
    obtain ⟨hr, hg, hb, ha⟩ := hfits e he
    exact ⟨nofun, fun _ => ⟨hr, hg, hb, ha.trans (by decide)⟩, fun _ => ha, by simp⟩
  · obtain ⟨hflag, hfits⟩ : p.Fits true 4095 (· ≤ 4095) := hdrRgbHdrAlpha_fits hv
    exact ⟨hflag, fun e he => ⟨nofun, fun _ => hfits e he, nofun, by simp⟩⟩

/-- Settles O40: CEM 8 is the direct formula with alpha 255, CEM 12 with the last two values. -/
theorem ldrDirectTieRule : Obligations.LdrDirectTieRule :=
  fun v0 v1 v2 v3 v4 v5 v6 v7 =>
    ⟨ldrDirect_cons v0 v1 v2 v3 v4 v5 0xFF 0xFF [], ldrDirect_cons v0 v1 v2 v3 v4 v5 v6 v7 [v6, v7]⟩
end

section
/-! The selection among the four scores of the partition hash (R266, R267): O43. -/

namespace Sys2Proof.Machine

/-- R267: ties go to the lower index, so index 2 or 3 is selected only with a score that beats another one, and
no score is below 0. -/
theorem selectPartition_cases (a b c d : Nat) :
    selectPartition a b c d ≤ 1 ∨ (selectPartition a b c d = 2 ∧ 0 < c) ∨ (selectPartition a b c d = 3 ∧ 0 < d) := by
  unfold selectPartition
  split
  case isTrue => exact .inl (Nat.zero_le 1)
  case isFalse ha =>
    split
    case isTrue => exact .inl le_rfl
    case isFalse hb =>
      split
      case isTrue hdc => exact .inr (.inl ⟨rfl, by omega⟩)
      case isFalse hdc => exact .inr (.inr ⟨rfl, by omega⟩)

/-- R266 gives the indices from `n` on the score 0, and such an index is not selected. -/
theorem selectPartition_lt {n : Nat} (hn : 2 ≤ n) (a b c d : Nat) :
    selectPartition a b (if 3 ≤ n then c else 0) (if 4 ≤ n then d else 0) < n := by
  obtain hle | ⟨htwo, hpos⟩ | ⟨hthree, hpos⟩ :=
    selectPartition_cases a b (if 3 ≤ n then c else 0) (if 4 ≤ n then d else 0)
  · exact hle.trans_lt hn
  · have h3 : 3 ≤ n := by_contra fun h => by simp [h] at hpos
    exact htwo.trans_lt h3
  · have h4 : 4 ≤ n := by_contra fun h => by simp [h] at hpos
    exact hthree.trans_lt h4

theorem partitionAt_lt {n : Nat} (hn : 2 ≤ n) (seedIn x y z : Nat) : partitionAt seedIn x y z n < n :=
  selectPartition_lt hn ..

end Sys2Proof.Machine

open Sys2Proof Sys2Proof.Machine

/-- Settles O43: a small block only changes the coordinates, and the selection is below `n` at every coordinate. -/
theorem partitionBelowCount : Obligations.PartitionBelowCount := by
  intro seed x y z n small hn _
  cases small
  case false => exact partitionAt_lt hn seed x y z
  case true => exact partitionAt_lt hn seed (2 * x) (2 * y) (2 * z)
end

section
/-! The weight infill (R284 to R289): the factors, the taps and the grid coordinates, for O41 and O42. -/

namespace Sys2Proof.Machine

/-! ### The four factors (R287) -/

/-- R287: no factor is negative. -/
theorem infillFactors_nonneg {fx fy : Nat} (hx : fx < 16) (hy : fy < 16) :
    (fx * fy + 8) / 16 ≤ fx ∧ (fx * fy + 8) / 16 ≤ fy ∧ fx + fy ≤ 16 + (fx * fy + 8) / 16 := by
  have hfx : fx * fy ≤ fx * 15 := Nat.mul_le_mul_left fx (by omega)
  have hfy : fx * fy ≤ 15 * fy := Nat.mul_le_mul_right fy (by omega)
  have hcorner : 16 * (fx + fy) ≤ fx * fy + 256 := by nlinarith
  omega

/-- R287: the factors are a splitting of 16, so that equal taps give sixteen times the tap. -/
theorem mul_infillFactors_sum {fx fy : Nat} (hx : fx < 16) (hy : fy < 16) (m : Nat) :
    m * (16 + (fx * fy + 8) / 16 - fx - fy) + m * (fx - (fx * fy + 8) / 16) + m * (fy - (fx * fy + 8) / 16)
      + m * ((fx * fy + 8) / 16) = m * 16 := by
  obtain ⟨hwx, hwy, hsum⟩ := infillFactors_nonneg hx hy
  simp only [← Nat.mul_add]
  congr 1
  omega

/-! ### The taps (R288, R289) -/

theorem weightTap_le {uw : List Nat} {m : Nat} (hm : ∀ x ∈ uw, x ≤ m) (k f : Nat) : weightTap uw k f ≤ m * f := by
  unfold weightTap
  split
  case isTrue => exact Nat.zero_le _
  case isFalse => exact Nat.mul_le_mul_right f (getD_le_of_forall hm k)

/-- R289: a tap outside the grid does no harm when its factor is 0. -/
theorem weightTap_replicate {n k f : Nat} (c : Nat) (hk : f ≠ 0 → k < n) :
    weightTap (List.replicate n c) k f = c * f := by
  unfold weightTap
  split
  case isTrue hf => rw [hf, Nat.mul_zero]
  case isFalse hf => rw [List.getD_replicate _ (hk hf)]

theorem mul_add_lt_mul {a b m n : Nat} (ha : a < m) (hb : b < n) : a * n + b < m * n :=
  calc a * n + b < (a + 1) * n := by rw [Nat.succ_mul]; omega
    _ ≤ m * n := Nat.mul_le_mul_right n ha

/-- R282: a grid point has its weights in the sequence. -/
theorem gridIndex_lt {gw gh planes jx jy p : Nat} (hx : jx < gw) (hy : jy < gh) (hp : p < planes) :
    (jy * gw + jx) * planes + p < gw * gh * planes :=
  mul_add_lt_mul (Nat.mul_comm gh gw ▸ mul_add_lt_mul hy hx) hp

/-! ### The infill -/

/-- The rounding of R284 leaves a whole number of sixteenths alone. -/
theorem sixteenths_rounded (m : Nat) : (m * 16 + 8) / 16 = m := by omega

/-- R290: a weighted mean is at most the largest weight. -/
theorem infill_le {uw : List Nat} {m : Nat} (hm : ∀ x ∈ uw, x ≤ m) (gw planes gx gy p : Nat) :
    infill uw gw planes gx gy p ≤ m := by
  have hsum := mul_infillFactors_sum (Nat.mod_lt gx (by decide : 16 > 0)) (Nat.mod_lt gy (by decide : 16 > 0)) m
  refine (Nat.div_le_div_right (Nat.add_le_add_right ?_ 8)).trans_eq (sixteenths_rounded m)
  rw [← hsum]
  gcongr <;> exact weightTap_le hm ..

/-- R289, R290: at a coordinate of the grid every tap outside it has the factor 0. -/
theorem infill_replicate {gw gh planes gx gy p : Nat} (c : Nat) (hgw : 0 < gw) (hgh : 0 < gh)
    (hx : gx ≤ 16 * (gw - 1)) (hy : gy ≤ 16 * (gh - 1)) (hp : p < planes) :
    infill (List.replicate (gw * gh * planes) c) gw planes gx gy p = c := by
  have hfx : gx % 16 < 16 := Nat.mod_lt gx (by decide)
  have hfy : gy % 16 < 16 := Nat.mod_lt gy (by decide)
  obtain ⟨hwx, hwy, -⟩ := infillFactors_nonneg hfx hfy
  have hjx : gx / 16 < gw := by omega
  have hjy : gy / 16 < gh := by omega
  have hright (h : gx % 16 ≠ 0) : gx / 16 + 1 < gw := by omega
  have hbelow (h : gy % 16 ≠ 0) : gy / 16 + 1 < gh := by omega
  have hrow : gy / 16 * gw + gx / 16 + gw = (gy / 16 + 1) * gw + gx / 16 := by rw [Nat.succ_mul]; omega
  unfold infill
  dsimp only
  rw [hrow, Nat.add_assoc (_ * gw), Nat.add_assoc (_ * gw), weightTap_replicate c fun _ => gridIndex_lt hjx hjy hp,
    weightTap_replicate c fun h => gridIndex_lt (hright (by omega)) hjy hp,
    weightTap_replicate c fun h => gridIndex_lt hjx (hbelow (by omega)) hp,
    weightTap_replicate c fun h => gridIndex_lt (hright (by omega)) (hbelow (by omega)) hp,
    mul_infillFactors_sum hfx hfy, sixteenths_rounded]

/-- R287: on a grid point only the tap of that point counts. -/
theorem infill_gridPoint (uw : List Nat) (gw planes jx jy p : Nat) :
    infill uw gw planes (16 * jx) (16 * jy) p = uw.getD ((jy * gw + jx) * planes + p) 0 := by
  simp [infill, weightTap, sixteenths_rounded]

/-! ### The grid coordinates (R285, R286) -/

/-- The table of R285: a footprint has at most twelve texels in a row or column, and the scale of such a dimension is
within 2 of the exact one. -/
theorem footprint_scales : ∀ fmt < 14, ∀ dim ∈ [(footprint fmt).1, (footprint fmt).2],
    0 < dim ∧ dim ≤ 12 ∧ 1022 ≤ weightScale dim * (dim - 1) ∧ weightScale dim * (dim - 1) ≤ 1026 := by decide

section
variable {fmt dim : Nat} (hfmt : fmt < 14) (hdim : dim ∈ [(footprint fmt).1, (footprint fmt).2])
include hfmt hdim

/-- R286: the rounding takes no coordinate past the last grid point. -/
theorem gridCoord_le {t g : Nat} (ht : t < dim) (hg : g ≤ dim) : gridCoord dim t g ≤ 16 * (g - 1) := by
  obtain ⟨-, hle, -, hscale⟩ := footprint_scales fmt hfmt dim hdim
  have hcoord : weightScale dim * t * (g - 1) ≤ 1026 * (g - 1) :=
    Nat.mul_le_mul_right _ ((Nat.mul_le_mul_left _ (by omega)).trans hscale)
  unfold gridCoord
  omega

/-- R286: in a grid as wide as the footprint every texel is on a grid point. -/
theorem gridCoord_self {t : Nat} (ht : t < dim) : gridCoord dim t dim = 16 * t := by
  obtain ⟨-, hle, hlow, hhigh⟩ := footprint_scales fmt hfmt dim hdim
  have hcomm : weightScale dim * t * (dim - 1) = weightScale dim * (dim - 1) * t := Nat.mul_right_comm ..
  have hl := Nat.mul_le_mul_right t hlow
  have hh := Nat.mul_le_mul_right t hhigh
  unfold gridCoord
  omega

end

/-! ### The two planes (R283) -/

theorem texelWeight_eq {uw : List Nat} {bw bh gw gh tx ty a b : Nat} {dual : Bool}
    (h0 : infill uw gw (planesOf dual) (gridCoord bw tx gw) (gridCoord bh ty gh) 0 = a)
    (h1 : dual = true → infill uw gw (planesOf dual) (gridCoord bw tx gw) (gridCoord bh ty gh) 1 = b) :
    texelWeight uw bw bh gw gh dual tx ty = ⟨a, if dual then some b else none⟩ := by
  unfold texelWeight
  cases dual
  case false => simp [h0]
  case true => simp [h0, h1]

end Sys2Proof.Machine

open Sys2Proof Sys2Proof.Machine

/-- Settles O41: a texel weight is a weighted mean of weights of the grid. -/
theorem texelWeightsInRange : Obligations.TexelWeightsInRange := by
  refine ⟨fun uw bw bh gw gh tx ty dual huw => ⟨infill_le huw .., fun y hy => ?_⟩,
    fun fmt c gw gh tx ty dual hfmt hgw hgwle hgh hghle htx hty => ?_⟩
  · obtain ⟨-, rfl⟩ : dual = true ∧ infill uw gw (planesOf dual) (gridCoord bw tx gw) (gridCoord bh ty gh) 1 = y := by
      simpa [texelWeight] using hy
    exact infill_le huw ..
  · have hx := gridCoord_le hfmt (by simp) htx hgwle
    have hy := gridCoord_le hfmt (by simp) hty hghle
    have hplane {p : Nat} (hp : p < planesOf dual) := infill_replicate c (by omega) (by omega) hx hy hp
    exact texelWeight_eq (hplane (by cases dual <;> decide)) (fun h => hplane (by rw [h]; decide))

/-- Settles O42: every texel is on the grid point of its own weight. -/
theorem fullGridIsIdentity : Obligations.FullGridIsIdentity := by
  intro fmt uw tx ty dual hfmt htx hty k
  have hplane (p : Nat) : infill uw (footprint fmt).1 (planesOf dual) (gridCoord (footprint fmt).1 tx (footprint fmt).1)
      (gridCoord (footprint fmt).2 ty (footprint fmt).2) p = uw.getD (k + p) 0 := by
    rw [gridCoord_self hfmt (by simp) htx, gridCoord_self hfmt (by simp) hty, infill_gridPoint]
  exact texelWeight_eq (hplane 0) fun _ => hplane 1
end

section
/-! The steps of a decode and their checks in order: O5, O23, O11, O12, O13, O18, O20. -/

namespace Sys2Proof.Machine

/-! ### What is fetched and run -/

/-- The bytes fetched are those of the phase, in the space of the phase. -/
theorem fetchBytes_some {s : State} {sp : Space} {bytes : List Byte} (h : fetchBytes s = some (sp, bytes)) :
    (sp = .command ∧ s.phase = .command ∧ bytes = [s.cmd.setWidth 8])
      ∨ (sp = .blockMode ∧ s.phase = .blockMode ∧ bytes = bytesOfBlock s.blk)
      ∨ (sp = .endpoint ∧ s.phase = .endpoint ∧ bytes = bytesOfBlock s.blk) := by
  unfold fetchBytes at h
  cases hp : s.phase <;> simp_all

theorem codecStep_of_decode {s : State} {sp : Space} {bytes : List Byte} {i : Instr}
    (hb : fetchBytes s = some (sp, bytes)) (hd : decode sp bytes = .ok i) : codecStep s = exec i s := by
  simp only [codecStep, fetch, hb, hd]

theorem step_of_host_nil {s : State} (h : s.host = []) : step s = codecStep s := by
  simp only [step, h]

theorem step_of_tick {s : State} {rest : List HostAct} (h : s.host = .tick :: rest) :
    step s = codecStep { s with host := rest } := by
  simp only [step, h]

theorem step_of_waitDone {s : State} {rest : List HostAct} (h : s.host = .waitDone :: rest)
    (hb : statusBusy s.status = true) : step s = codecStep s := by
  simp only [step, h, hb, if_true]

/-! ### Void-extent blocks -/

theorem f16IsInfOrNan_iff (h : Nat) : f16IsInfOrNan h = true ↔ getBits h 10 14 = 31 := beq_iff_eq

theorem extentsBad_iff_toNat (minS maxS minT maxT : BitVec 13) :
    extentsBad minS maxS minT maxT = true
      ↔ ¬ (minS = 0x1FFF ∧ maxS = 0x1FFF ∧ minT = 0x1FFF ∧ maxT = 0x1FFF)
        ∧ (maxS.toNat ≤ minS.toNat ∨ maxT.toNat ≤ minT.toNat) := by
  simp only [extentsBad, extentsAllOnes, Bool.and_eq_true, Bool.or_eq_true, Bool.not_eq_true', decide_eq_true_eq,
    ← Bool.not_eq_true, beq_iff_eq, and_assoc]
  rfl

theorem exec_voidExtent (d : Bool) (rsv : BitVec 2) (minS maxS minT maxT : BitVec 13) (cr cg cb ca : BitVec 16)
    (s : State) : exec (.voidExtent d rsv minS maxS minT maxT cr cg cb ca) s
      = execVoidExtent d rsv minS maxS minT maxT cr cg cb ca s := rfl

/-- `VOID_EXTENT`, with its tests as R302 writes them. -/
theorem execVoidExtent_eq (d : Bool) (rsv : BitVec 2) (minS maxS minT maxT : BitVec 13) (cr cg cb ca : BitVec 16)
    (s : State) :
    execVoidExtent d rsv minS maxS minT maxT cr cg cb ca s =
      (let ch := fun c : BitVec 16 => voidChannel (cfgSrgb s.cfg) d c.toNat
       if cfgHdrMode s.cfg = false ∧ d = true then errorBlock .veHdrInLdr s
       else if ¬ (minS = 0x1FFF ∧ maxS = 0x1FFF ∧ minT = 0x1FFF ∧ maxT = 0x1FFF)
          ∧ (maxS.toNat ≤ minS.toNat ∨ maxT.toNat ≤ minT.toNat) then errorBlock .veExtent s
       else if d = true ∧ ∃ c ∈ [cr, cg, cb, ca], getBits c.toNat 10 14 = 31 then errorBlock .veInfNan s
       else finish (List.replicate (texelCount s.cfg) ⟨ch cr, ch cg, ch cb, ch ca⟩) .none s) := by
  have hinf : (f16IsInfOrNan cr.toNat || f16IsInfOrNan cg.toNat || f16IsInfOrNan cb.toNat || f16IsInfOrNan ca.toNat)
      = true ↔ ∃ c ∈ [cr, cg, cb, ca], getBits c.toNat 10 14 = 31 := by
    simp [f16IsInfOrNan_iff, or_assoc]
  simp only [execVoidExtent, extentsBad_iff_toNat, hinf]

theorem index_lt_texelCount {cfg : BitVec 6} {tx ty : Nat} (hx : tx < blockW cfg) (hy : ty < blockH cfg) :
    ty * blockW cfg + tx < texelCount cfg :=
  (mul_add_lt_mul hy hx).trans_eq (Nat.mul_comm _ _)

/-- A decode that gives every texel one colour. -/
theorem finish_replicate_decodedAs (colour : Rgba) (c : Cause) (s : State) :
    ∃ t, finish (List.replicate (texelCount s.cfg) colour) c s = .next t
      ∧ decodedAs s t c (decide (c = .veInfNan)) (fun _ _ => colour) :=
  finish_decodedAs c List.length_replicate
    fun _ hx _ hy => List.getElem?_replicate_of_lt (index_lt_texelCount hx hy)

/-! ### Texels of HDR partitions -/

theorem mem_texelCoords {bw bh : Nat} {t : Nat × Nat} : t ∈ texelCoords bw bh ↔ t.1 < bw ∧ t.2 < bh := by
  obtain ⟨tx, ty⟩ := t
  simp [texelCoords, and_comm]

theorem texelFails_iff (nv : NormalValues) (cfg : BitVec 6) (tx ty : Nat) :
    texelFails nv cfg tx ty = true
      ↔ cfgHdrMode cfg = false ∧ cemIsHdr (nv.cem.getD (texelPartition nv cfg tx ty) 0) = true := by
  rw [texelFails, Bool.and_eq_true, Bool.not_eq_true']

/-- The cause of a drawn block tells whether some texel of the footprint is in error (R319, R328). -/
theorem normalCause_eq_hdrCemInLdr_iff (nv : NormalValues) (cfg : BitVec 6) :
    normalCause nv cfg = .hdrCemInLdr ↔ ∃ tx < blockW cfg, ∃ ty < blockH cfg, texelFails nv cfg tx ty = true := by
  have hany : (texelCoords (blockW cfg) (blockH cfg)).any (fun t => texelFails nv cfg t.1 t.2) = true
      ↔ ∃ tx < blockW cfg, ∃ ty < blockH cfg, texelFails nv cfg tx ty = true := by
    simp [List.any_eq_true, mem_texelCoords, and_assoc]
  rw [← hany, normalCause]
  split <;> simp [*]

theorem texelFails_of_hdrMode (nv : NormalValues) {cfg : BitVec 6} (h : cfgHdrMode cfg = true) (tx ty : Nat) :
    texelFails nv cfg tx ty = false := by
  rw [texelFails, h, Bool.not_true, Bool.false_and]

end Sys2Proof.Machine

open Sys2Proof Sys2Proof.Machine

/-- Settles O5: each way of stepping that is not an access of the host is the codec's own step. -/
theorem stepRunsTheFetchedInstruction : Obligations.StepRunsTheFetchedInstruction := by
  intro s sp bytes i hb hd
  refine ⟨fetchBytes_some hb, fun h => ?_, fun rest h => ?_, fun rest h hbusy => ?_⟩
  · rw [step_of_host_nil h, codecStep_of_decode hb hd]
  · rw [step_of_tick h, codecStep_of_decode (s := { s with host := rest }) hb hd]
  · rw [step_of_waitDone h hbusy, codecStep_of_decode hb hd]

/-- Settles O23: the two conditions are the two sides of the refusal test. -/
theorem decodeCommandsStart : Obligations.DecodeCommandsStart := by
  intro s
  have hlegal : cfgDecodeLegal s.cfg = true
      ↔ cfgFmt s.cfg < 14 ∧ ¬ (cfgSrgb s.cfg = true ∧ cfgHdrMode s.cfg = true) := by
    simp only [cfgDecodeLegal, Bool.and_eq_true, decide_eq_true_eq, Bool.not_eq_true', ← Bool.not_eq_true]
  constructor
  · intro hf hm
    have hl := hlegal.mpr ⟨hf, hm⟩
    exact ⟨if_pos hl, if_pos hl⟩
  · intro h
    have hl : ¬ cfgDecodeLegal s.cfg = true := fun hl => by
      obtain ⟨hf, hm⟩ := hlegal.mp hl
      exact h.elim (fun h14 => by omega) hm
    exact ⟨if_neg hl, if_neg hl⟩

/-- Settles O11, check by check. -/
theorem modeChecksInOrder : Obligations.ModeChecksInOrder := by
  intro bm s
  rw [acceptMode]
  dsimp only
  by_cases hcount : 64 < weightCount bm
  · simp only [if_pos hcount]
    exact errorBlock_decodedAs .weightCount s
  simp only [if_neg hcount]
  by_cases hbits : weightBits bm < 24 ∨ 96 < weightBits bm
  · simp only [if_pos hbits]
    exact errorBlock_decodedAs .weightBits s
  simp only [if_neg hbits]
  by_cases hgrid : blockW s.cfg < bm.gridW ∨ blockH s.cfg < bm.gridH
  · simp only [if_pos hgrid]
    exact errorBlock_decodedAs .gridSize s
  · simp only [if_neg hgrid]
    exact ⟨_, rfl, rfl⟩

/-- Settles O12: none of the three checks fails, and the colour is stored. -/
theorem voidExtentDecodes : Obligations.VoidExtentDecodes := by
  intro d rsv minS maxS minT maxT cr cg cb ca s hhdr hext hfin
  have hmode : ¬ (cfgHdrMode s.cfg = false ∧ d = true) := fun ⟨hldr, hd⟩ => by simp [hhdr hd] at hldr
  have hok : ¬ (¬ (minS = 0x1FFF ∧ maxS = 0x1FFF ∧ minT = 0x1FFF ∧ maxT = 0x1FFF)
      ∧ (maxS.toNat ≤ minS.toNat ∨ maxT.toNat ≤ minT.toNat)) := fun ⟨hones, hle⟩ =>
    hones (hext.resolve_right (by omega))
  have hinf : ¬ (d = true ∧ ∃ c ∈ [cr, cg, cb, ca], getBits c.toNat 10 14 = 31) := fun ⟨hd, c, hc, h31⟩ =>
    hfin hd c hc h31
  rw [exec_voidExtent, execVoidExtent_eq]
  simp only [if_neg hmode, if_neg hok, if_neg hinf]
  exact finish_replicate_decodedAs _ .none s

/-- Settles O13, check by check. -/
theorem voidExtentErrors : Obligations.VoidExtentErrors := by
  intro d rsv minS maxS minT maxT cr cg cb ca s
  rw [exec_voidExtent, execVoidExtent_eq]
  by_cases hmode : cfgHdrMode s.cfg = false ∧ d = true
  · simp only [if_pos hmode]
    exact errorBlock_decodedAs .veHdrInLdr s
  by_cases hext : ¬ (minS = 0x1FFF ∧ maxS = 0x1FFF ∧ minT = 0x1FFF ∧ maxT = 0x1FFF)
      ∧ (maxS.toNat ≤ minS.toNat ∨ maxT.toNat ≤ minT.toNat)
  · simp only [if_neg hmode, if_pos hext]
    exact errorBlock_decodedAs .veExtent s
  simp only [if_neg hmode, if_neg hext]
  by_cases hinf : d = true ∧ ∃ c ∈ [cr, cg, cb, ca], getBits c.toNat 10 14 = 31
  · obtain ⟨t, ht, hdec⟩ := errorBlock_decodedAs .veInfNan s
    exact ⟨t, (if_pos hinf).trans ht, fun _ => hdec⟩
  · exact ⟨_, if_neg hinf, fun h => absurd h hinf⟩

/-- Settles O18, check by check. -/
theorem endpointChecksInOrder : Obligations.EndpointChecksInOrder := by
  intro nv formulas blk s
  dsimp only
  by_cases hdual : nv.nparts = 4 ∧ s.bm.isDualPlane = true
  · rw [assembleBlock]
    simp only [if_pos hdual]
    exact errorBlock_decodedAs .dual4Part s
  by_cases hcount : 18 < nv.ncev
  · rw [assembleBlock]
    simp only [if_neg hdual, if_pos hcount]
    exact errorBlock_decodedAs .cevCount s
  by_cases hbits : nv.ncb < (ceilDiv (13 * nv.ncev) 5 : Nat)
  · rw [assembleBlock]
    simp only [if_neg hdual, if_neg hcount, if_pos hbits]
    exact errorBlock_decodedAs .cevBits s
  · simp only [if_neg hdual, if_neg hcount, if_neg hbits]
    exact assembleBlock_decodedAs formulas blk hdual (by omega) (by omega)

/-- Settles O20: a texel is the error colour or the blend by the test of R319, which the cause repeats for the whole
footprint. -/
theorem ldrModeDegradesHdrTexels : Obligations.LdrModeDegradesHdrTexels := by
  intro nv formulas blk bm cfg cemAt pairAt weightAt
  have hcause := normalCause_eq_hdrCemInLdr_iff nv cfg
  refine ⟨texelFails_iff nv cfg, fun h => ?_, fun tx ty h => if_pos h, fun tx ty h => if_neg (by simp [h]), hcause,
    normalCause_cases nv cfg⟩
  have hnone := texelFails_of_hdrMode nv h
  refine ⟨hnone, (normalCause_cases nv cfg).resolve_right fun hc => ?_⟩
  obtain ⟨tx, -, ty, -, hfail⟩ := hcause.mp hc
  simp [hnone] at hfail
end

section
/-! The float conversions and the interpolation of texels: O44, O45. -/

namespace Sys2Proof.Machine

/-! ### A binary32 pattern by its fields -/

/-- The binary32 pattern of a sign, an exponent field and a mantissa field. -/
def f32Pattern (s e m : Nat) : Nat := s * 2 ^ 31 + e * 2 ^ 23 + m

section
variable {s e m : Nat} (hs : s < 2) (he : e < 256) (hm : m < 2 ^ 23)
include he hm

theorem or_fields_eq_f32Pattern : s * 2 ^ 31 ||| e * 2 ^ 23 ||| m = f32Pattern s e m := by
  have hexp : e * 2 ^ 23 < 2 ^ 31 := by omega
  rw [Nat.mul_comm s, ← Nat.two_pow_add_eq_or_of_lt hexp,
    show 2 ^ 31 * s + e * 2 ^ 23 = 2 ^ 23 * (2 ^ 8 * s + e) by omega, ← Nat.two_pow_add_eq_or_of_lt hm, f32Pattern]
  omega

theorem f32Pattern_exponent : getBits (f32Pattern s e m) 23 30 = e := by
  unfold getBits f32Pattern
  omega

theorem f32Pattern_lt_of_sign_zero : f32Pattern 0 e m < 2 ^ 31 := by
  unfold f32Pattern
  omega

/-- A normal pattern has the hidden bit. -/
theorem f32Magnitude_f32Pattern (h0 : e ≠ 0) : f32Magnitude (f32Pattern s e m) = (2 ^ 23 + m) * 2 ^ (e - 103) := by
  have hmant : getBits (f32Pattern s e m) 0 22 = m := by
    unfold getBits f32Pattern
    omega
  have hne : getBits (f32Pattern s e m) 0 30 ≠ 0 := by
    unfold getBits f32Pattern
    omega
  rw [f32Magnitude, if_neg hne, hmant, f32Pattern_exponent he hm]

include hs

theorem f32Pattern_lt : f32Pattern s e m < 2 ^ 32 := by
  unfold f32Pattern
  omega

theorem f32Pattern_sign : getBit (f32Pattern s e m) 31 = s := by
  unfold getBit getBits f32Pattern
  omega

end

theorem f32Magnitude_f32Pattern_zero (s : Nat) : f32Magnitude (f32Pattern s 0 0) = 0 := by
  have h0 : getBits (f32Pattern s 0 0) 0 30 = 0 := by
    unfold getBits f32Pattern
    omega
  rw [f32Magnitude, if_pos h0]

/-! ### A whole number as a normal pattern: its top bit is the hidden one -/

section
variable {c : Nat} (hc : c ≠ 0) (hlt : c < 2 ^ 16)
include hc hlt

theorem log2_lt_16 : c.log2 < 16 := (Nat.log2_lt hc).mpr hlt

/-- The bits below the top one, shifted to the top of the mantissa field, fill it with the hidden bit to `c`. -/
theorem mantissa_of_log2 : 2 ^ 23 + (c - 2 ^ c.log2) * 2 ^ (23 - c.log2) = c * 2 ^ (23 - c.log2) := by
  have hl := log2_lt_16 hc hlt
  have hpow : 2 ^ c.log2 * 2 ^ (23 - c.log2) = 2 ^ 23 := pow_mul_pow_sub 2 (by omega)
  rw [← hpow, ← Nat.add_mul, Nat.add_sub_cancel' (Nat.log2_self_le hc)]

theorem mantissa_of_log2_lt : (c - 2 ^ c.log2) * 2 ^ (23 - c.log2) < 2 ^ 23 := by
  have hl := log2_lt_16 hc hlt
  have htop : c < 2 ^ (c.log2 + 1) := Nat.lt_log2_self
  have hpow : 2 ^ c.log2 * 2 ^ (23 - c.log2) = 2 ^ 23 := pow_mul_pow_sub 2 (by omega)
  rw [← hpow]
  exact Nat.mul_lt_mul_of_pos_right (by rw [Nat.pow_succ] at htop; omega) (Nat.two_pow_pos _)

theorem f32Magnitude_of_log2 {s e : Nat} (he : 103 ≤ e) (hmax : e < 240) :
    f32Magnitude (f32Pattern s (e + c.log2) ((c - 2 ^ c.log2) * 2 ^ (23 - c.log2))) = c * 2 ^ (e - 80) := by
  have hl := log2_lt_16 hc hlt
  rw [f32Magnitude_f32Pattern (by omega) (mantissa_of_log2_lt hc hlt) (by omega), mantissa_of_log2 hc hlt,
    Nat.mul_assoc, ← Nat.pow_add]
  congr 2
  omega

end

/-! ### UNORM16 (R329) -/

theorem unorm16ToF32_eq {c : Nat} (h0 : c ≠ 0) (hlt : c < 65535) :
    unorm16ToF32 c = f32Pattern 0 (111 + c.log2) ((c - 2 ^ c.log2) * 2 ^ (23 - c.log2)) := by
  have hl := log2_lt_16 h0 (by omega)
  rw [← or_fields_eq_f32Pattern (by omega) (mantissa_of_log2_lt h0 (by omega)), unorm16ToF32, if_neg (by omega),
    if_neg h0, Nat.zero_mul, Nat.zero_or]

/-- Every UNORM16 value becomes the pattern of a number from 0 to 1. -/
theorem unorm16ToF32_finite {c : Nat} (hc : c < 2 ^ 16) :
    ∃ e m, unorm16ToF32 c = f32Pattern 0 e m ∧ e ≤ 127 ∧ m < 2 ^ 23 := by
  by_cases hone : c = 65535
  · exact ⟨127, 0, by rw [hone]; rfl, by omega, by omega⟩
  by_cases h0 : c = 0
  · exact ⟨0, 0, by rw [h0]; rfl, by omega, by omega⟩
  have hl := log2_lt_16 h0 hc
  exact ⟨_, _, unorm16ToF32_eq h0 (by omega), by omega, mantissa_of_log2_lt h0 hc⟩

/-! ### Binary16 (R330) -/

section
variable {h : Nat}

theorem getBit_lt_two (v i : Nat) : getBit v i < 2 := by
  unfold getBit getBits
  rw [Nat.sub_self]
  omega

theorem f16Mantissa_lt (h : Nat) : getBits h 0 9 < 1024 := by
  unfold getBits
  omega

theorem f16ToF32_zero (he : getBits h 10 14 = 0) (hm : getBits h 0 9 = 0) :
    f16ToF32 h = f32Pattern (getBit h 15) 0 0 := by
  rw [← or_fields_eq_f32Pattern (by omega) (by omega)]
  simp [f16ToF32, he, hm]

theorem f16ToF32_subnormal (he : getBits h 10 14 = 0) (hm : getBits h 0 9 ≠ 0) :
    f16ToF32 h = f32Pattern (getBit h 15) (103 + (getBits h 0 9).log2)
      ((getBits h 0 9 - 2 ^ (getBits h 0 9).log2) * 2 ^ (23 - (getBits h 0 9).log2)) := by
  have hlt := f16Mantissa_lt h
  simp only [f16ToF32, he, hm, and_false, if_true, if_false]
  generalize getBits h 0 9 = m at hm hlt
  have hl : m.log2 < 10 := (Nat.log2_lt hm).mpr hlt
  rw [← or_fields_eq_f32Pattern (by omega) (mantissa_of_log2_lt hm (by omega))]
  have hfield : m * 2 ^ (10 - m.log2) % 1024 * 2 ^ 13 = (m - 2 ^ m.log2) * 2 ^ (23 - m.log2) := by
    have htop := mantissa_of_log2 hm (by omega)
    have htop_lt := mantissa_of_log2_lt hm (by omega)
    simp only [show 23 - m.log2 = 10 - m.log2 + 13 by omega, Nat.pow_add _ (10 - m.log2), ← Nat.mul_assoc]
      at htop htop_lt ⊢
    omega
  rw [hfield, show 113 - (10 - m.log2) = 103 + m.log2 by omega]

theorem f16ToF32_normal (he : getBits h 10 14 ≠ 0) (hfin : getBits h 10 14 ≠ 31) :
    f16ToF32 h = f32Pattern (getBit h 15) (getBits h 10 14 + 112) (getBits h 0 9 * 2 ^ 13) := by
  have hlt := f16Mantissa_lt h
  have hexp : getBits h 10 14 < 32 := Nat.mod_lt _ (by decide)
  rw [← or_fields_eq_f32Pattern (by omega) (by omega)]
  simp [f16ToF32, he, hfin]

/-- Every finite binary16 pattern becomes a finite binary32 pattern of the same sign and magnitude. -/
theorem f16ToF32_finite (hfin : getBits h 10 14 ≠ 31) :
    ∃ e m, f16ToF32 h = f32Pattern (getBit h 15) e m ∧ e < 255 ∧ m < 2 ^ 23
      ∧ f32Magnitude (f32Pattern (getBit h 15) e m) = f16Magnitude h * 2 ^ 23 := by
  have hs := getBit_lt_two h 15
  have hmant := f16Mantissa_lt h
  by_cases he : getBits h 10 14 = 0
  · by_cases hm : getBits h 0 9 = 0
    · refine ⟨0, 0, f16ToF32_zero he hm, by omega, by omega, ?_⟩
      rw [f32Magnitude_f32Pattern_zero, f16Magnitude, if_pos he, hm, Nat.zero_mul]
    · have hl := log2_lt_16 hm (by omega)
      refine ⟨_, _, f16ToF32_subnormal he hm, by omega, mantissa_of_log2_lt hm (by omega), ?_⟩
      rw [f32Magnitude_of_log2 hm (by omega) (by omega) (by omega), f16Magnitude, if_pos he]
  · have hexp : getBits h 10 14 < 32 := Nat.mod_lt _ (by decide)
    refine ⟨_, _, f16ToF32_normal he hfin, by omega, by omega, ?_⟩
    rw [f32Magnitude_f32Pattern (by omega) (by omega) (by omega), f16Magnitude, if_neg he,
      show getBits h 10 14 + 112 - 103 = getBits h 10 14 - 1 + 10 by omega, Nat.pow_add]
    generalize 2 ^ (getBits h 10 14 - 1) = p
    rw [show (2 : Nat) ^ 23 + getBits h 0 9 * 2 ^ 13 = (1024 + getBits h 0 9) * 2 ^ 13 by omega]
    ring

end

/-! ### Interpolation (R323 to R327) -/

/-- A blend of two values is between them, whatever the weight. -/
theorem interpolate_le {c0 c1 w m : Nat} (hw : w ≤ 64) (h0 : c0 ≤ m) (h1 : c1 ≤ m) :
    interpolate c0 c1 w ≤ m := by
  have hsum : c0 * (64 - w) + c1 * w ≤ m * 64 :=
    calc c0 * (64 - w) + c1 * w ≤ m * (64 - w) + m * w :=
          Nat.add_le_add (Nat.mul_le_mul_right _ h0) (Nat.mul_le_mul_right _ h1)
      _ = m * 64 := by rw [← Nat.mul_add, Nat.sub_add_cancel hw]
  unfold interpolate
  omega

theorem interpolate_zero (c0 c1 : Nat) : interpolate c0 c1 0 = c0 := by
  unfold interpolate
  omega

theorem interpolate_sixtyFour (c0 c1 : Nat) : interpolate c0 c1 64 = c1 := by
  unfold interpolate
  omega

theorem hdrMantissa_lt {m : Nat} (hm : m < 2048) : hdrMantissa m < 8192 := by
  unfold hdrMantissa
  split
  · omega
  · split <;> omega

/-- The sign bit of an HDR value is clear (R326). -/
theorem hdrToF16_lt (c : Nat) : hdrToF16 c < 2 ^ 15 := by
  have hm : hdrMantissa (getBits c 0 10) < 8192 := hdrMantissa_lt (Nat.mod_lt _ (by decide))
  have he : getBits c 11 15 < 32 := Nat.mod_lt _ (by decide)
  unfold hdrToF16
  omega

/-- R327 leaves a finite pattern with the sign bit clear. -/
theorem saturateF16_finite {cf : Nat} (h : cf < 2 ^ 15) :
    getBits (saturateF16 cf) 10 14 ≠ 31 ∧ getBit (saturateF16 cf) 15 = 0 := by
  unfold saturateF16
  split
  · decide
  · next hfin =>
    refine ⟨fun h31 => hfin (beq_iff_eq.mpr h31), ?_⟩
    unfold getBit getBits
    omega

/-- A pattern with a clear sign and an exponent field below 255. -/
theorem f32Pattern_not_inf {e m : Nat} (he : e < 255) (hm : m < 2 ^ 23) :
    getBits (f32Pattern 0 e m) 23 30 ≠ 255 ∧ f32Pattern 0 e m < 2 ^ 31 := by
  rw [f32Pattern_exponent (by omega) hm]
  exact ⟨he.ne, f32Pattern_lt_of_sign_zero (by omega) hm⟩

theorem blendHdr_finite (a b w : Nat) : getBits (blendHdr a b w) 23 30 ≠ 255 ∧ blendHdr a b w < 2 ^ 31 := by
  obtain ⟨hfin, hsign⟩ := saturateF16_finite (hdrToF16_lt (interpolate (a * 16) (b * 16) w))
  obtain ⟨e, m, heq, he, hm, -⟩ := f16ToF32_finite hfin
  rw [blendHdr, heq, hsign]
  exact f32Pattern_not_inf he hm

theorem blendLdr_linear (a b w : Nat) :
    blendLdr false a b w = unorm16ToF32 (interpolate (a * 256 + a) (b * 256 + b) w) := by
  simp [blendLdr, widenLdr]

theorem blendLdr_linear_finite {a b w : Nat} (hw : w ≤ 64) (ha : a ≤ 255) (hb : b ≤ 255) :
    getBits (blendLdr false a b w) 23 30 ≠ 255 := by
  have hc : interpolate (a * 256 + a) (b * 256 + b) w ≤ 65535 := interpolate_le hw (by omega) (by omega)
  obtain ⟨e, m, heq, he, hm⟩ := unorm16ToF32_finite (Nat.lt_succ_of_le hc)
  rw [blendLdr_linear, heq]
  exact (f32Pattern_not_inf (by omega) hm).1

theorem blendLdr_srgb (a b w : Nat) : blendLdr true a b w = interpolate (a * 256 + 128) (b * 256 + 128) w / 256 := rfl

theorem blendLdr_srgb_le {a b w : Nat} (hw : w ≤ 64) (ha : a ≤ 255) (hb : b ≤ 255) :
    blendLdr true a b w ≤ 255 := by
  have hc := interpolate_le (m := 65408) hw (by omega : a * 256 + 128 ≤ 65408) (by omega : b * 256 + 128 ≤ 65408)
  rw [blendLdr_srgb]
  omega

end Sys2Proof.Machine

open Sys2Proof Sys2Proof.Machine

/-- Settles O44: a zero, a subnormal and a normal pattern each keep sign and magnitude; a whole number has its top bit
as the hidden one. -/
theorem floatConversionsAreExact : Obligations.FloatConversionsAreExact := by
  refine ⟨fun h _ hfin => ?_, fun c hc => ?_, rfl⟩
  · have hs := getBit_lt_two h 15
    obtain ⟨e, m, heq, he, hm, hmag⟩ := f16ToF32_finite hfin
    rw [heq]
    exact ⟨f32Pattern_lt hs (by omega) hm, f32Pattern_sign hs (by omega) hm, hmag⟩
  · by_cases h0 : c = 0
    · rw [h0]
      decide
    · have hl := log2_lt_16 h0 (by omega)
      rw [unorm16ToF32_eq h0 hc]
      exact ⟨f32Magnitude_of_log2 h0 (by omega) (by omega) (by omega),
        f32Pattern_lt_of_sign_zero (by omega) (mantissa_of_log2_lt h0 (by omega))⟩

/-- Settles O45: the HDR path saturates, the linear LDR path stays within 0 to 1, and the sRGB path is a mean
of bytes. -/
theorem noInfinityInTexels : Obligations.NoInfinityInTexels := by
  refine fun a b w hw => ⟨fun _ _ => blendHdr_finite a b w, fun ha hb => ⟨blendLdr_linear_finite hw ha hb,
    blendLdr_srgb_le hw ha hb, ?_, ?_⟩⟩
  · rw [blendLdr_srgb, interpolate_zero]
    omega
  · rw [blendLdr_srgb, interpolate_sixtyFour]
    omega
end

section
/-! A partition and CEM row and the block it was decoded from: O19. A row does not hold the block-mode bits 10:0, and
nothing that a normal block reads after its block mode stands there. -/

namespace Sys2Proof.Machine

/-- Two words have the same bits above the block mode. -/
def AgreeAboveMode (v w : Nat) : Prop := ∀ i, 11 ≤ i → v.testBit i = w.testBit i

theorem agreeAboveMode_of_div {v w : Nat} (h : v / 2 ^ 11 = w / 2 ^ 11) : AgreeAboveMode v w := by
  intro i hi
  have hbit (x : Nat) : x.testBit i = (x / 2 ^ 11).testBit (i - 11) := by
    rw [Nat.testBit_div_two_pow, Nat.sub_add_cancel hi]
  rw [hbit, hbit, h]

/-- A cursor whose whole stream stands above the block mode. -/
def Cursor.AboveMode (cur : Cursor) : Prop :=
  (cur.forward = true → 11 ≤ cur.start) ∧ (cur.forward = false → cur.length + 10 ≤ cur.start)

theorem Cursor.AboveMode.advance {cur : Cursor} (h : cur.AboveMode) (n : Nat) : (cur.advance n).AboveMode := h

theorem Cursor.AboveMode.le_bitPos {cur : Cursor} (h : cur.AboveMode) {j : Nat} (hj : cur.ndx + j < cur.length) :
    11 ≤ cur.bitPos j := by
  obtain ⟨hfwd, hrev⟩ := h
  cases hf : cur.forward
  case true =>
    have := hfwd hf
    rw [Cursor.bitPos_forward hf]
    omega
  case false =>
    have := hrev hf
    rw [Cursor.bitPos_reverse hf]
    omega

theorem colourCursor_aboveMode (n length : Nat) : (colourCursor n length).AboveMode := by
  refine ⟨fun _ => ?_, fun hf => by simp [colourCursor] at hf⟩
  simp only [colourCursor, colourStart]
  split <;> omega

theorem weightCursor_aboveMode {nwb : Nat} (h : nwb ≤ 96) : (weightCursor nwb).AboveMode := by
  refine ⟨fun hf => by simp [weightCursor] at hf, fun _ => ?_⟩
  simp only [weightCursor]
  omega

theorem le_extraPos {nwb : Nat} (h : nwb ≤ 96) (n : Nat) (single : Bool) : 24 ≤ extraPos n single nwb := by
  unfold extraPos
  split
  · omega
  · split
    · omega
    · split <;> omega

/-! ### What a normal block reads -/

section
variable {v w : Nat} (h : AgreeAboveMode v w)
include h

theorem AgreeAboveMode.getBits_eq {low : Nat} (hl : 11 ≤ low) (high : Nat) :
    getBits v low high = getBits w low high := by
  apply Nat.eq_of_testBit_eq
  intro j
  rw [testBit_getBits, testBit_getBits, h (low + j) (by omega)]

theorem AgreeAboveMode.value_eq {cur : Cursor} (hc : cur.AboveMode) (n : Nat) : cur.value v n = cur.value w n := by
  have hr : cur.forward = false → cur.length ≤ cur.start + 1 := fun hf => by
    have := hc.2 hf
    omega
  apply Nat.eq_of_testBit_eq
  intro j
  rw [Cursor.testBit_value v hr, Cursor.testBit_value w hr]
  by_cases hj : j < cur.avail n
  · rw [h _ (hc.le_bitPos (Cursor.lt_avail_iff.mp hj).2)]
  · simp [hj]

theorem AgreeAboveMode.readPieces_eq (numBits : Nat) (ws : List Nat) {cur : Cursor} (hc : cur.AboveMode) :
    readPieces v numBits ws cur = readPieces w numBits ws cur := by
  induction ws generalizing cur with
  | nil => rfl
  | cons k ws ih =>
    rw [readPieces, readPieces, h.value_eq hc, h.value_eq (hc.advance numBits), ih ((hc.advance numBits).advance k)]

theorem AgreeAboveMode.decodeIseBlock_eq (p : IseParams) (n : Nat) {cur : Cursor} (hc : cur.AboveMode) :
    decodeIseBlock v p n cur = decodeIseBlock w p n cur := by
  by_cases hm : p.mode = .plainBit
  · rw [decodeIseBlock_of_plainBit hm, decodeIseBlock_of_plainBit hm, h.value_eq hc]
  · rw [decodeIseBlock_of_ne hm, decodeIseBlock_of_ne hm, h.readPieces_eq _ _ hc]

theorem AgreeAboveMode.decodeIseBlocks_eq (p : IseParams) (nb n : Nat) {cur : Cursor} (hc : cur.AboveMode) :
    decodeIseBlocks v p nb n cur = decodeIseBlocks w p nb n cur := by
  induction nb generalizing n cur with
  | zero => rfl
  | succ nb ih => rw [decodeIseBlocks, decodeIseBlocks, h.decodeIseBlock_eq p _ hc, ih _ (hc.advance _)]

theorem AgreeAboveMode.decodeIse_eq (p : IseParams) (n : Nat) {cur : Cursor} (hc : cur.AboveMode) :
    decodeIse v cur p n = decodeIse w cur p n :=
  h.decodeIseBlocks_eq p _ n hc

theorem AgreeAboveMode.independentCem_eq {extra : Nat} (he : 11 ≤ extra) (n sel p : Nat) :
    independentCem v n sel extra p = independentCem w n sel extra p := by
  have hstring (i : Nat) : cemStringBit v extra i = cemStringBit w extra i :=
    h.getBits_eq (by split <;> omega) _
  have hclass : getBit v (25 + p) = getBit w (25 + p) := h.getBits_eq (by omega) _
  rw [independentCem, independentCem, hclass, hstring, hstring]

theorem AgreeAboveMode.decodeCems_eq {extra : Nat} (he : 11 ≤ extra) (n : Nat) :
    decodeCems v n extra = decodeCems w n extra := by
  have hcem (sel : Nat) : independentCem v n sel extra = independentCem w n sel extra :=
    funext (h.independentCem_eq he n sel)
  rw [decodeCems, decodeCems, h.getBits_eq (by omega : 11 ≤ 13), h.getBits_eq (by omega : 11 ≤ 23),
    h.getBits_eq (by omega : 11 ≤ 25), hcem]

theorem AgreeAboveMode.blockValues_eq {bm : BlockModeInfo} (hb : weightBits bm ≤ 96) :
    blockValues bm v = blockValues bm w := by
  have hextra := le_extraPos hb
  unfold blockValues normalValues
  dsimp only
  rw [h.getBits_eq (by omega : 11 ≤ 11), h.getBits_eq (by omega : 11 ≤ 23), h.getBits_eq (by omega : 11 ≤ 13),
    h.decodeCems_eq ((by omega : 11 ≤ 24).trans (hextra _ _)),
    h.getBits_eq ((by omega : 11 ≤ 24 - 2).trans (Nat.sub_le_sub_right (hextra _ _) 2))]

theorem AgreeAboveMode.assembleBlock_eq {s : State} (hb : weightBits s.bm ≤ 96) (nv : NormalValues)
    (fs : List (List Nat → EndpointPair)) : assembleBlock nv fs v s = assembleBlock nv fs w s := by
  have hcolours : colourValues v = colourValues w := by
    funext n ncb ncev
    rw [colourValues, colourValues, h.decodeIse_eq _ _ (colourCursor_aboveMode n ncb)]
  have hweights : unquantWeights v s.bm = unquantWeights w s.bm := by
    rw [unquantWeights, unquantWeights, weightElems, weightElems, h.decodeIse_eq _ _ (weightCursor_aboveMode hb)]
  have htexels : normalTexels nv fs v s.bm s.cfg = normalTexels nv fs w s.bm s.cfg := by
    rw [normalTexels, normalTexels, endpointPairs, endpointPairs, hcolours, hweights]
  rw [assembleBlock, assembleBlock, htexels]

end

/-! ### The rows of the decoder, by their shapes -/

/-- The checks and texels of R309 to R328 with everything read from the bits of one word. -/
def assembleWord (w : Nat) (s : State) : Result :=
  assembleBlock (blockValues s.bm w) ((blockValues s.bm w).cem.map endpointFormula) w s

theorem AgreeAboveMode.assembleWord_eq {v w : Nat} (h : AgreeAboveMode v w) {s : State} (hb : weightBits s.bm ≤ 96) :
    assembleWord v s = assembleWord w s := by
  rw [assembleWord, assembleWord, h.blockValues_eq hb, h.assembleBlock_eq hb]

theorem exec_decodeCemSingle {cem : Nat} (hc : cem < 16) (data : BitVec 111) (s : State) :
    exec (decodeCemSingle cem data) s = singlePartition cem (endpointFormula cem) data s := by
  interval_cases cem <;> rfl

section
variable {p : Nat} (hp : p = 1 ∨ p = 2 ∨ p = 3) (seed : BitVec 10) (four : BitVec 4) (data : BitVec 99) (s : State)
include hp

theorem exec_multiRow_shared :
    exec (multiRow p 0 seed four data) s
      = sharedPartitions (p + 1) four.toNat (endpointFormula four.toNat) seed data s := by
  have hf := four.isLt
  unfold multiRow
  generalize four.toNat = cem at hf
  obtain rfl | rfl | rfl := hp <;> interval_cases cem <;> rfl

theorem exec_multiRow_indep {sel : Nat} (hs : sel = 1 ∨ sel = 2 ∨ sel = 3) :
    exec (multiRow p sel seed four data) s = independentPartitions (p + 1) sel seed four data s := by
  obtain rfl | rfl | rfl := hp <;> obtain rfl | rfl | rfl := hs <;> rfl

end

/-! ### A row as a word of its own -/

theorem singlePartition_eq_assembleWord {cem : Nat} (hc : cem < 16) (data : BitVec 111) (s : State) :
    singlePartition cem (endpointFormula cem) data s = assembleWord (singleBits cem data) s := by
  have hn : getBits (singleBits cem data) 11 12 = 0 := by
    unfold getBits singleBits
    omega
  have hcem : getBits (singleBits cem data) 13 16 = cem := by
    unfold getBits singleBits
    omega
  have hvalues : blockValues s.bm (singleBits cem data) = normalValues s.bm 1 true [cem] (singleBits cem data) := by
    simp [blockValues, hn, decodeCems, hcem]
  rw [assembleWord, hvalues]
  rfl

theorem sharedPartitions_eq_assembleWord {n cem : Nat} (hn : 1 < n ∧ n ≤ 4) (hc : cem < 16) (seed : BitVec 10)
    (data : BitVec 99) (s : State) :
    sharedPartitions n cem (endpointFormula cem) seed data s = assembleWord (sharedBits n cem seed data) s := by
  have hparts : getBits (sharedBits n cem seed data) 11 12 + 1 = n := by
    unfold getBits sharedBits
    omega
  have hsel : getBits (sharedBits n cem seed data) 23 24 = 0 := by
    unfold getBits sharedBits
    omega
  have hcem : getBits (sharedBits n cem seed data) 25 28 = cem := by
    unfold getBits sharedBits
    omega
  have hvalues : blockValues s.bm (sharedBits n cem seed data)
      = normalValues s.bm n true (List.replicate n cem) (sharedBits n cem seed data) := by
    simp [blockValues, hparts, hsel, decodeCems, hcem, show n ≠ 1 by omega]
  have hformulas : List.replicate n (endpointFormula cem) = (List.replicate n cem).map endpointFormula :=
    List.map_replicate.symm
  rw [assembleWord, hvalues, sharedPartitions, hformulas]
  rfl

theorem independentPartitions_eq_assembleWord {n sel : Nat} (hn : 1 < n ∧ n ≤ 4) (hs : 0 < sel ∧ sel < 4)
    (seed : BitVec 10) (str4 : BitVec 4) (data : BitVec 99) (s : State) :
    independentPartitions n sel seed str4 data s = assembleWord (independentBits n sel seed str4 data) s := by
  have hparts : getBits (independentBits n sel seed str4 data) 11 12 + 1 = n := by
    unfold getBits independentBits
    omega
  have hsel : getBits (independentBits n sel seed str4 data) 23 24 = sel := by
    unfold getBits independentBits
    omega
  have hsingle : (n == 1 || sel == 0) = false := by
    simp [show n ≠ 1 by omega, show sel ≠ 0 by omega]
  have hvalues : blockValues s.bm (independentBits n sel seed str4 data)
      = normalValues s.bm n false (decodeCems (independentBits n sel seed str4 data) n
          (extraPos n false (weightBits s.bm))) (independentBits n sel seed str4 data) := by
    simp only [blockValues, hparts, hsel, hsingle]
  rw [assembleWord, hvalues]
  rfl

/-- The row decoded from a block has the bits of the block above its block mode. -/
theorem exec_decodeEndpoint_eq (blk : Block) (s : State) :
    ∃ w, AgreeAboveMode w blk.toNat ∧ exec (decodeEndpoint blk) s = assembleWord w s := by
  have hblk := blk.isLt
  obtain hp | hp := bitsOf_two_cases blk.toNat 12 11
  · have hc : bitsOf blk.toNat 16 13 < 16 := bitsOf_lt _ _ _
    rw [decodeEndpoint_single hp, exec_decodeCemSingle hc, singlePartition_eq_assembleWord hc]
    refine ⟨_, agreeAboveMode_of_div ?_, rfl⟩
    simp only [singleBits, BitVec.toNat_ofNat]
    unfold bitsOf at *
    omega
  have hn : 1 < bitsOf blk.toNat 12 11 + 1 ∧ bitsOf blk.toNat 12 11 + 1 ≤ 4 := by omega
  rw [decodeEndpoint_multi (by omega)]
  obtain hs | hs := bitsOf_two_cases blk.toNat 24 23
  · rw [hs, exec_multiRow_shared hp, sharedPartitions_eq_assembleWord hn (BitVec.isLt _)]
    refine ⟨_, agreeAboveMode_of_div ?_, rfl⟩
    simp only [sharedBits, BitVec.toNat_ofNat]
    unfold bitsOf at *
    omega
  · rw [exec_multiRow_indep hp _ _ _ _ hs, independentPartitions_eq_assembleWord hn (by omega)]
    refine ⟨_, agreeAboveMode_of_div ?_, rfl⟩
    simp only [independentBits, BitVec.toNat_ofNat]
    unfold bitsOf at *
    omega

end Sys2Proof.Machine

open Sys2Proof Sys2Proof.Machine

/-- Settles O19: the row is the checks and texels of a word that has the bits of the block above its block mode, and
nothing lower is read. -/
theorem endpointRowsFollowTheBlock : Obligations.EndpointRowsFollowTheBlock := by
  intro blk s hb
  obtain ⟨w, hw, he⟩ := exec_decodeEndpoint_eq blk s
  exact he.trans (hw.assembleWord_eq hb)
end

section
/-! The decode of a whole block, step after step: O24, O49, O26. -/

namespace Sys2Proof.Machine

/-! ### Runs without host actions -/

theorem run_of_step {s t : State} (h : step s = .next t) (k : Nat) :
    Sys2Proof.core.run (k + 1) s = Sys2Proof.core.run k t := by
  have hcore : Sys2Proof.core.step s = .next t := h
  simp only [Host.Core.run, hcore]

theorem run_of_idle {s : State} (hp : s.phase = .idle) (hh : s.host = []) (k : Nat) :
    Sys2Proof.core.run k s = .next s := by
  induction k with
  | zero => rfl
  | succ k ih => rw [run_of_step (t := s) (by rw [step_of_host_nil hh, codecStep_idle hp]), ih]

theorem step_of_fetch {s : State} {i : Instr} (hh : s.host = []) (hf : fetch s = some i) : step s = exec i s := by
  simp only [step_of_host_nil hh, codecStep, hf]

/-! ### A result that is the end of a decode -/

/-- A result ends a decode as an outcome of R300 says; only VE_INF_NAN raises `FAULT` (R328). -/
def Result.Decodes (r : Result) (s : State) (o : DecodeOutcome) : Prop :=
  ∃ t, r = .next t ∧ decodedAs s t o.1 (decide (o.1 = .veInfNan)) o.2

theorem errorBlock_decodes (c : Cause) (s : State) : (errorBlock c s).Decodes s (errorOutcome s.cfg c) :=
  errorBlock_decodedAs c s

/-- After the end of a decode the machine rests. -/
theorem run_decodes_of_step {s : State} {o : DecodeOutcome} (hh : s.host = []) (h : Result.Decodes (step s) s o)
    (k : Nat) : Result.Decodes (Sys2Proof.core.run (k + 1) s) s o := by
  obtain ⟨t, ht, hdec⟩ := h
  obtain ⟨heq, -⟩ := hdec.1
  have hp : t.phase = .idle := congrArg State.phase heq
  have hhost : t.host = [] := (congrArg State.host heq).trans hh
  exact ⟨t, (run_of_step ht k).trans (run_of_idle hp hhost k), hdec⟩

/-! ### The rows of a block against the procedure -/

theorem exec_decodeVoidExtent (w : Nat) (s : State) :
    exec (decodeVoidExtent w) s = execVoidExtent (isBitSet w 9) (BitVec.ofNat 2 (getBits w 10 11))
      (BitVec.ofNat 13 (getBits w 12 24)) (BitVec.ofNat 13 (getBits w 25 37)) (BitVec.ofNat 13 (getBits w 38 50))
      (BitVec.ofNat 13 (getBits w 51 63)) (BitVec.ofNat 16 (getBits w 64 79)) (BitVec.ofNat 16 (getBits w 80 95))
      (BitVec.ofNat 16 (getBits w 96 111)) (BitVec.ofNat 16 (getBits w 112 127)) s := by
  rw [isBitSet_eq_bitAt]
  rfl

/-- The void-extent row with the fields of a block does what R302 and R303 say of its bits. -/
theorem decodeVoidExtent_decodes (w : Nat) (s : State) :
    Result.Decodes (exec (decodeVoidExtent w) s) s (voidOutcome s.cfg w) := by
  have hcolour (lo hi : Nat) (h : hi - lo + 1 = 16) : (BitVec.ofNat 16 (getBits w lo hi)).toNat = getBits w lo hi :=
    Nat.mod_eq_of_lt (h ▸ Nat.mod_lt _ (Nat.two_pow_pos _))
  rw [exec_decodeVoidExtent, execVoidExtent, hcolour 64 79 rfl, hcolour 80 95 rfl, hcolour 96 111 rfl,
    hcolour 112 127 rfl]
  simp only [voidOutcome, ← extentsBad_iff, Nat.reduceMul, Nat.reduceAdd]
  split
  · exact errorBlock_decodes .veHdrInLdr s
  · split
    · exact errorBlock_decodes .veExtent s
    · split
      · exact errorBlock_decodes .veInfNan s
      · exact finish_replicate_decodedAs _ .none s

theorem normalCause_ne_veInfNan (nv : NormalValues) (cfg : BitVec 6) : normalCause nv cfg ≠ .veInfNan := by
  obtain h | h := normalCause_cases nv cfg <;> simp [h]

/-- The checks and texels of the partition and CEM fields (O18) are the rest of the procedure once R306 to R308 have
passed. -/
theorem assembleWord_decodes {s : State} (w : Nat) (hm : modeFits s.cfg s.bm = true) :
    (assembleWord w s).Decodes s (normalOutcome s.cfg s.bm w) := by
  simp only [modeFits, Bool.and_eq_true, decide_eq_true_eq] at hm
  obtain ⟨⟨⟨⟨hcount, hlo⟩, hhi⟩, hw⟩, hh⟩ := hm
  obtain ⟨t, ht, hdec⟩ := endpointChecksInOrder (blockValues s.bm w)
    ((blockValues s.bm w).cem.map endpointFormula) w s
  refine ⟨t, ht, ?_⟩
  rw [normalOutcome, if_neg (by omega), if_neg (by omega), if_neg (by omega)]
  dsimp only at hdec ⊢
  by_cases hdual : (blockValues s.bm w).nparts = 4 ∧ s.bm.isDualPlane = true
  · rw [if_pos hdual] at hdec ⊢
    exact hdec
  rw [if_neg hdual] at hdec ⊢
  by_cases hcev : 18 < (blockValues s.bm w).ncev
  · rw [if_pos hcev] at hdec ⊢
    exact hdec
  rw [if_neg hcev] at hdec ⊢
  by_cases hbits : (blockValues s.bm w).ncb < (ceilDiv (13 * (blockValues s.bm w).ncev) 5 : Nat)
  · rw [if_pos hbits] at hdec ⊢
    exact hdec
  · rw [if_neg hbits] at hdec ⊢
    rwa [decide_eq_false (normalCause_ne_veInfNan _ _)]

/-- From the partition and CEM fields of an accepted mode one step ends the decode. -/
theorem run_decodes_of_endpoint {s : State} (hp : s.phase = .endpoint) (hh : s.host = [])
    (hm : modeFits s.cfg s.bm = true) (k : Nat) :
    Result.Decodes (Sys2Proof.core.run (k + 1) s) s (normalOutcome s.cfg s.bm s.blk.toNat) := by
  have hb : weightBits s.bm ≤ 96 := by
    simp only [modeFits, Bool.and_eq_true, decide_eq_true_eq] at hm
    exact hm.1.1.2
  have hstep : step s = assembleWord s.blk.toNat s := by
    rw [step_of_fetch hh (by rw [fetch_eq, hp]), endpointRowsFollowTheBlock s.blk s hb, assembleWord]
  exact run_decodes_of_step hh (hstep ▸ assembleWord_decodes _ hm) k

/-- From the block mode two steps end the decode of a block (R301 to R328). -/
theorem run_decodes_of_blockMode {s : State} (hp : s.phase = .blockMode) (hh : s.host = []) (k : Nat) :
    Result.Decodes (Sys2Proof.core.run (k + 2) s) s (decodeOutcome s.cfg s.blk) := by
  have hstep : step s = exec (decodeBlockMode s.blk) s := step_of_fetch hh (by rw [fetch_eq, hp])
  rw [blockModeRowsFollowTheParser s.blk s] at hstep
  unfold decodeOutcome
  dsimp only
  generalize parseBlockMode (getBits s.blk.toNat 0 10) = bm at hstep ⊢
  by_cases herr : bm.isError = true
  · rw [if_pos herr] at hstep ⊢
    exact run_decodes_of_step hh (hstep ▸ errorBlock_decodes .reservedMode s) _
  rw [if_neg herr] at hstep ⊢
  by_cases hve : bm.isVoidExtent = true
  · rw [if_pos hve] at hstep ⊢
    exact run_decodes_of_step hh (hstep ▸ decodeVoidExtent_decodes _ s) _
  rw [if_neg hve] at hstep ⊢
  obtain ⟨hbad, he⟩ | ⟨hok, hbad, he⟩ | ⟨hcount, hlo, hhi, hbad, he⟩ | ⟨hcount, hlo, hhi, hw, hgh, he⟩ :=
    acceptMode_cases bm s
  · rw [normalOutcome, if_pos hbad]
    exact run_decodes_of_step hh (hstep.trans he ▸ errorBlock_decodes .weightCount s) _
  · rw [normalOutcome, if_neg (by omega), if_pos hbad]
    exact run_decodes_of_step hh (hstep.trans he ▸ errorBlock_decodes .weightBits s) _
  · rw [normalOutcome, if_neg (by omega), if_neg (by omega), if_pos hbad]
    exact run_decodes_of_step hh (hstep.trans he ▸ errorBlock_decodes .gridSize s) _
  · have hfit : modeFits s.cfg bm = true := by simp [modeFits, hcount, hlo, hhi, hw, hgh]
    rw [run_of_step (hstep.trans he)]
    exact run_decodes_of_endpoint (s := latchMode bm s) rfl hh hfit k

theorem decodeCommand_of_code {c : BitVec 3} (hc : c = 1 ∨ c = 2) (s : State) :
    exec (decodeCommand c) s = beginDecode c s := by
  obtain rfl | rfl := hc <;> rfl

/-- The first step of a started `DECODE` or `ISVALID`. -/
theorem step_startCommand {c : BitVec 3} (hc : c = 1 ∨ c = 2) {s : State} (hh : s.host = []) :
    step (startCommand c s) = beginDecode c (startCommand c s) := by
  rw [step_of_fetch (s := startCommand c s) (i := decodeCommand c) hh (by rw [fetch_eq]; rfl),
    decodeCommand_of_code hc]

end Sys2Proof.Machine

open Sys2Proof Sys2Proof.Machine

/-- Settles O24: the refusal test and the latch, then the two steps of the block. -/
theorem decodeCommandsFollowTheProcedure : Obligations.DecodeCommandsFollowTheProcedure := by
  intro s0 c hc hl s outcome
  have hfirst : step s = .next (latchBlock c s) := (step_startCommand hc rfl).trans (if_pos hl)
  rw [run_of_step hfirst]
  exact run_decodes_of_blockMode (s := latchBlock c s) rfl rfl 0
end

section
/-! `ISVALID` beside `DECODE`, and the block of `ENC_VOID` under `DECODE`: O49, O26. -/

namespace Sys2Proof.Machine

/-! ### Two ends of one decode -/

/-- The fields of `STATUS` are all of it (R23). -/
theorem packStatus_of_fields : ∀ st : BitVec 8,
    packStatus (statusBusy st) (statusDone st) (statusResult st) (statusFault st) (statusCause st) = st := by decide

/-- Two ends with one cause, from states that differ in the running code only, differ in `TX` only. -/
theorem endedAs_agree {s t u : State} {c' : BitVec 3} {cause : Cause} {f : Bool} (ht : endedAs s t cause f)
    (hu : endedAs { s with cmd := c' } u cause f) : t.status = u.status ∧ u = { t with tx := u.tx } := by
  obtain ⟨htEq, htBusy, htDone, htResult, htCause, htFault⟩ := ht
  obtain ⟨huEq, huBusy, huDone, huResult, huCause, huFault⟩ := hu
  have hstatus : t.status = u.status := by
    rw [← packStatus_of_fields t.status, ← packStatus_of_fields u.status, htBusy, htDone, htResult, htCause,
      htFault, huBusy, huDone, huResult, huCause, huFault]
  refine ⟨hstatus, huEq.trans ?_⟩
  rw [htEq, ← hstatus]

/-- A refused start is over after its first step. -/
theorem run_startCommand_refused {c : BitVec 3} (hc : c = 1 ∨ c = 2) {s : State} (hh : s.host = [])
    (hl : ¬ cfgDecodeLegal s.cfg = true) (k : Nat) :
    Sys2Proof.core.run (k + 1) (startCommand c s) = .next (endCommand .cfgInvalid true (startCommand c s)) := by
  have hstep : step (startCommand c s) = .next (endCommand .cfgInvalid true (startCommand c s)) :=
    (step_startCommand hc hh).trans (if_neg hl)
  rw [run_of_step hstep]
  exact run_of_idle (s := endCommand .cfgInvalid true (startCommand c s)) rfl hh k

/-! ### The bits of a void-extent block (R352) -/

/-- A range write above everything written before. -/
theorem toNat_setBits_above {buf : Block} {low high x : Nat} (hl : low ≤ high) (hh : high < 128)
    (hbuf : buf.toNat < 2 ^ low) (hx : x < 2 ^ (high - low + 1)) :
    (setBits buf low high x).toNat = buf.toNat + x * 2 ^ low := by
  have htop : 2 ^ low * x + buf.toNat < 2 ^ 128 :=
    calc 2 ^ low * x + buf.toNat < 2 ^ low * (x + 1) := by rw [Nat.mul_succ]; omega
      _ ≤ 2 ^ low * 2 ^ (high - low + 1) := Nat.mul_le_mul_left _ hx
      _ = 2 ^ (high + 1) := by rw [← Nat.pow_add]; congr 1; omega
      _ ≤ 2 ^ 128 := Nat.pow_le_pow_right (by decide) hh
  rw [setBits_eq_ofNat, Nat.div_eq_of_lt hbuf, Nat.zero_div, Nat.mul_zero, Nat.zero_add, Nat.mod_eq_of_lt hx,
    Nat.mod_eq_of_lt hbuf, BitVec.toNat_ofNat, Nat.mod_eq_of_lt htop, Nat.mul_comm, Nat.add_comm]

theorem toNat_voidHeader (hdr : Bool) :
    (voidHeader hdr).toNat = 0x1FC + hdr.toNat * 2 ^ 9 + 3 * 2 ^ 10 + (2 ^ 52 - 1) * 2 ^ 12 := by
  cases hdr <;> decide

theorem voidColour_lt (p : BitVec 65) : veR p < 2 ^ 16 ∧ veG p < 2 ^ 16 ∧ veB p < 2 ^ 16 ∧ veA p < 2 ^ 16 :=
  ⟨bitsOf_lt _ _ _, bitsOf_lt _ _ _, bitsOf_lt _ _ _, bitsOf_lt _ _ _⟩

theorem toNat_voidBlock (p : BitVec 65) :
    (voidBlock p).toNat = 0x1FC + (veIsHdr p).toNat * 2 ^ 9 + 3 * 2 ^ 10 + (2 ^ 52 - 1) * 2 ^ 12 + veR p * 2 ^ 64
      + veG p * 2 ^ 80 + veB p * 2 ^ 96 + veA p * 2 ^ 112 := by
  obtain ⟨hr, hg, hb, ha⟩ := voidColour_lt p
  have hflag := (veIsHdr p).toNat_le
  have hheader := toNat_voidHeader (veIsHdr p)
  unfold voidBlock
  dsimp only
  generalize hbuf : setBits (voidHeader (veIsHdr p)) 64 79 (veR p) = buf
  rw [← BitVec.toNat_inj, toNat_setBits_above (by omega) (by omega) (by omega) hr] at hbuf
  generalize hbuf' : setBits buf 80 95 (veG p) = buf'
  rw [← BitVec.toNat_inj, toNat_setBits_above (by omega) (by omega) (by omega) hg] at hbuf'
  generalize hbuf'' : setBits buf' 96 111 (veB p) = buf''
  rw [← BitVec.toNat_inj, toNat_setBits_above (by omega) (by omega) (by omega) hb] at hbuf''
  rw [toNat_setBits_above (by omega) (by omega) (by omega) ha, ← hbuf'', ← hbuf', ← hbuf, hheader]

/-- The block of `ENC_VOID` by the fields that R302 and R303 read. -/
structure VoidFields (p : BitVec 65) (w : Nat) : Prop where
  sentinel : getBits w 0 8 = 0x1FC
  hdr : isBitSet w 9 = veIsHdr p
  minS : getBits w 12 24 = 0x1FFF
  maxS : getBits w 25 37 = 0x1FFF
  minT : getBits w 38 50 = 0x1FFF
  maxT : getBits w 51 63 = 0x1FFF
  r : getBits w 64 79 = veR p
  g : getBits w 80 95 = veG p
  b : getBits w 96 111 = veB p
  a : getBits w 112 127 = veA p

theorem voidBlock_fields (p : BitVec 65) : VoidFields p (voidBlock p).toNat := by
  obtain ⟨hr, hg, hb, ha⟩ := voidColour_lt p
  have hflag := (veIsHdr p).toNat_le
  have hw := toNat_voidBlock p
  generalize (voidBlock p).toNat = w at hw
  constructor
  case hdr => exact (isBitSet_eq_bitAt w 9).trans (bitAt_eq (by omega))
  all_goals
    unfold getBits
    omega

/-- What R300 says of the block of `ENC_VOID`. -/
theorem decodeOutcome_voidBlock {p : BitVec 65} {cfg : BitVec 6} (hok : voidParamsBad p = false)
    (hhdr : veIsHdr p = true → cfgHdrMode cfg = true) :
    decodeOutcome cfg (voidBlock p) = (.none, fun _ _ =>
      ⟨voidChannel (cfgSrgb cfg) (veIsHdr p) (veR p), voidChannel (cfgSrgb cfg) (veIsHdr p) (veG p),
        voidChannel (cfgSrgb cfg) (veIsHdr p) (veB p), voidChannel (cfgSrgb cfg) (veIsHdr p) (veA p)⟩) := by
  obtain ⟨hsentinel, h9, hminS, hmaxS, hminT, hmaxT, hr, hg, hb, ha⟩ := voidBlock_fields p
  have hmode : ¬ (cfgHdrMode cfg = false ∧ veIsHdr p = true) := fun ⟨hldr, hd⟩ => by simp [hhdr hd] at hldr
  have hvoid : bitsOf (getBits (voidBlock p).toNat 0 10) 8 0 = 0x1FC := by
    unfold bitsOf getBits at *
    omega
  have hinf : ¬ (veIsHdr p = true
      ∧ (f16IsInfOrNan (veR p) || f16IsInfOrNan (veG p) || f16IsInfOrNan (veB p) || f16IsInfOrNan (veA p))
        = true) := by
    rw [← Bool.and_eq_true, Bool.not_eq_true]
    exact hok
  unfold decodeOutcome
  rw [parseBlockMode_void hvoid]
  simp only [voidOutcome, Nat.reduceMul, Nat.reduceAdd, h9, hminS, hmaxS, hminT, hmaxT, hr, hg, hb, ha, if_neg hmode]
  exact (if_neg (by decide)).trans (if_neg hinf)

end Sys2Proof.Machine

open Sys2Proof Sys2Proof.Machine

/-- Settles O49: under a legal configuration both commands follow the one procedure of O24, `ISVALID` with no write to
`TX`; under another both are refused. -/
theorem isvalidAgreesWithDecode : Obligations.IsvalidAgreesWithDecode := by
  intro s0
  by_cases hl : cfgDecodeLegal s0.cfg = true
  · obtain ⟨t, ht, hdec, -⟩ := decodeCommandsFollowTheProcedure s0 1 (.inl rfl) hl
    obtain ⟨u, hu, hval, htx⟩ := decodeCommandsFollowTheProcedure s0 2 (.inr rfl) hl
    obtain ⟨hstatus, hreg⟩ := endedAs_agree hdec hval
    obtain ⟨-, hbusy, -⟩ := hdec
    exact ⟨t, u, ht, hu, hbusy, hstatus, htx, hreg⟩
  · have hrefused {c : BitVec 3} (hc : c = 1 ∨ c = 2) :=
      run_startCommand_refused hc (s := { s0 with host := [] }) rfl hl 2
    exact ⟨_, _, hrefused (.inl rfl), hrefused (.inr rfl), endStatus_busy _ _ _, rfl, rfl, rfl⟩

/-- Settles O26: the block has the sentinel and the all-ones extents, so that R302 leaves only the colour to check, and
`ENC_VOID` has checked it. -/
theorem encVoidDecodesBack : Obligations.EncVoidDecodesBack := by
  intro p cfg hok hhdr
  rw [decodeOutcome_voidBlock hok hhdr]
  exact ⟨rfl, fun _ _ => rfl⟩
end

section
/-! The block of `ENC_NORMAL` read back. Each of its parts (the mode, the counts, the CEMs, the selector, the two
sequences) writes positions that no later part touches, so that each is read as it was written: O28, O29. -/

namespace Sys2Proof.Machine

/-! ### Ranges of bits -/

theorem getBits_congr {a b : Block} {low high : Nat} (hl : low ≤ high)
    (h : ∀ i, low ≤ i → i ≤ high → a.getLsbD i = b.getLsbD i) :
    getBits a.toNat low high = getBits b.toNat low high := by
  apply Nat.eq_of_testBit_eq
  intro j
  rw [testBit_getBits, testBit_getBits]
  by_cases hj : j < high - low + 1
  · rw [← BitVec.getLsbD, ← BitVec.getLsbD, h _ (by omega) (by omega)]
  · simp [hj]

theorem getBits_setBits {buf : Block} {low high x : Nat} (hl : low ≤ high) (hh : high < 128)
    (hx : x < 2 ^ (high - low + 1)) : getBits (setBits buf low high x).toNat low high = x := by
  apply Nat.eq_of_testBit_eq
  intro j
  rw [testBit_getBits, ← BitVec.getLsbD, getLsbD_setBits x _ hl hh]
  by_cases hj : j < high - low + 1
  · rw [if_pos (by omega), decide_eq_true hj, Bool.true_and, Nat.add_sub_cancel_left]
  · rw [decide_eq_false hj, Bool.false_and,
      Nat.testBit_lt_two_pow (hx.trans_le (Nat.pow_le_pow_right (by decide) (by omega)))]

theorem getLsbD_setBits_of_outside {buf : Block} {low high i : Nat} (x : Nat) (hl : low ≤ high) (hh : high < 128)
    (hi : i < low ∨ high < i) : (setBits buf low high x).getLsbD i = buf.getLsbD i := by
  rw [getLsbD_setBits x i hl hh, if_neg (by omega)]

theorem getLsbD_setBit {buf : Block} {k : Nat} (i x : Nat) (hk : k < 128) :
    (setBit buf k x).getLsbD i = if i = k then x.testBit 0 else buf.getLsbD i := by
  rw [setBit, getLsbD_setBits x i le_rfl hk]
  by_cases hi : i = k
  · rw [if_pos ⟨hi.ge, hi.le⟩, if_pos hi, hi, Nat.sub_self]
  · rw [if_neg (by omega), if_neg hi]

theorem getBit_eq_toNat_getLsbD (b : Block) (i : Nat) : getBit b.toNat i = (b.getLsbD i).toNat := by
  rw [getBit_eq_toNat_bitAt, toNat_bitAt, BitVec.getLsbD, Nat.toNat_testBit]

/-! ### The bits of a cursor's stream -/

/-- Bit `i` of the block is in the stream of the cursor (R104, R105). -/
def Cursor.Spans (cur : Cursor) (i : Nat) : Prop :=
  if cur.forward then cur.start ≤ i ∧ i < cur.start + cur.length else i ≤ cur.start ∧ cur.start < i + cur.length

section
variable {cur : Cursor}

theorem Cursor.InBlock.spans_bitPos (h : cur.InBlock) {n j : Nat} (hj : j < cur.avail n) :
    cur.Spans (cur.bitPos j) := by
  have hin := (Cursor.lt_avail_iff.mp hj).2
  obtain ⟨-, hrev⟩ := h
  unfold Cursor.Spans
  cases hf : cur.forward
  case true =>
    rw [Cursor.bitPos_forward hf, if_pos rfl]
    omega
  case false =>
    have := hrev hf
    rw [Cursor.bitPos_reverse hf, if_neg (by decide)]
    omega

theorem Cursor.getLsbD_putAll_of_not_spans (h : cur.InBlock) {i : Nat} (hi : ¬ cur.Spans i)
    (ps : List (Nat × Nat)) (buf : Block) : (cur.putAll buf ps).getLsbD i = buf.getLsbD i := by
  induction ps generalizing buf cur with
  | nil => rfl
  | cons p ps ih =>
    rw [Cursor.putAll, ih (h.advance p.1) hi, Cursor.getLsbD_put_of_ne buf p.2 h.1 h.2]
    rintro j hj rfl
    exact hi (h.spans_bitPos hj)

theorem Cursor.value_congr (h : cur.InBlock) {a b : Block}
    (hab : ∀ i, cur.Spans i → a.getLsbD i = b.getLsbD i) (n : Nat) : cur.value a.toNat n = cur.value b.toNat n := by
  apply Nat.eq_of_testBit_eq
  intro j
  rw [Cursor.testBit_value _ fun hf => (h.2 hf).1, Cursor.testBit_value _ fun hf => (h.2 hf).1]
  by_cases hj : j < cur.avail n
  · rw [← BitVec.getLsbD, ← BitVec.getLsbD, hab _ (h.spans_bitPos hj)]
  · simp [hj]

theorem Cursor.Holds.congr (h : cur.InBlock) {a b : Block} (hab : ∀ i, cur.Spans i → a.getLsbD i = b.getLsbD i)
    {ps : List (Nat × Nat)} (ha : cur.Holds a.toNat ps) : cur.Holds b.toNat ps := by
  induction ps generalizing cur with
  | nil => trivial
  | cons p ps ih =>
    obtain ⟨hvalue, hrest⟩ := ha
    exact ⟨(Cursor.value_congr h hab p.1).symm.trans hvalue, ih (h.advance p.1) hab hrest⟩

end

theorem weightCursor_inBlock {nwb : Nat} (h : nwb ≤ 128) : (weightCursor nwb).InBlock :=
  ⟨fun hf => absurd hf (by simp [weightCursor]), fun _ => ⟨h, le_rfl⟩⟩

theorem weightCursor_spans_iff {nwb i : Nat} : (weightCursor nwb).Spans i ↔ i ≤ 127 ∧ 127 < i + nwb := by
  simp [Cursor.Spans, weightCursor]

theorem colourCursor_inBlock {n length : Nat} (h : colourStart n + length ≤ 128) : (colourCursor n length).InBlock :=
  ⟨fun _ => h, fun hf => absurd hf (by simp [colourCursor])⟩

theorem colourCursor_spans_iff {n length i : Nat} :
    (colourCursor n length).Spans i ↔ colourStart n ≤ i ∧ i < colourStart n + length := by
  simp [Cursor.Spans, colourCursor]

/-! ### The CEM of one partition (R192, R194, R360) -/

/-- The positions of a partition's CEM: its class bit, and its low two bits in the string `S`. -/
def CemPos (n extra p i : Nat) : Prop :=
  i = 25 + p ∨ i = cemStringPos extra (n + 2 * p) ∨ i = cemStringPos extra (n + 2 * p + 1)

/-- The block has the three bits of a partition's CEM. -/
def HoldsCem (b : Block) (n extra sel p cem : Nat) : Prop :=
  b.getLsbD (25 + p) = decide (cem / 4 = sel) ∧ b.getLsbD (cemStringPos extra (n + 2 * p)) = cem.testBit 0
    ∧ b.getLsbD (cemStringPos extra (n + 2 * p + 1)) = cem.testBit 1

/-- The three writes of `putIndependentCems` for one partition. -/
def putCem (n extra sel p cem : Nat) (buf : Block) : Block :=
  setBit (setBit (setBit buf (25 + p) (if cem / 4 = sel then 1 else 0)) (cemStringPos extra (n + 2 * p)) (cem % 2))
    (cemStringPos extra (n + 2 * p + 1)) (cem % 4 / 2)

theorem putIndependentCems_cons (n extra sel : Nat) (buf : Block) (p cem : Nat) (rest : List Nat) :
    putIndependentCems n extra sel buf p (cem :: rest)
      = putIndependentCems n extra sel (putCem n extra sel p cem buf) (p + 1) rest := rfl

theorem cemStringBit_eq (b : Block) (extra i : Nat) :
    cemStringBit b.toNat extra i = (b.getLsbD (cemStringPos extra i)).toNat := getBit_eq_toNat_getLsbD b _

section
variable {n extra sel p cem : Nat}

/-- The reader makes the class from `SEL` and the class bit. -/
theorem independentCem_of_holdsCem {b : Block} (h : HoldsCem b n extra sel p cem)
    (hclass : cem / 4 = sel ∨ cem / 4 + 1 = sel) : independentCem b.toNat n sel extra p = cem := by
  obtain ⟨hc, h0, h1⟩ := h
  have hbit : (decide (cem / 4 = sel)).toNat = if cem / 4 = sel then 1 else 0 := by split <;> simp [*]
  rw [independentCem, cemStringBit_eq, cemStringBit_eq, getBit_eq_toNat_getLsbD, hc, h0, h1, Nat.toNat_testBit,
    Nat.toNat_testBit, hbit]
  split <;> omega

theorem HoldsCem.congr {a b : Block} (ha : HoldsCem a n extra sel p cem)
    (hab : ∀ i, CemPos n extra p i → a.getLsbD i = b.getLsbD i) : HoldsCem b n extra sel p cem := by
  unfold HoldsCem at *
  rwa [← hab _ (.inl rfl), ← hab _ (.inr (.inl rfl)), ← hab _ (.inr (.inr rfl))]

theorem cemStringPos_inj (hextra : 29 ≤ extra) {i j : Nat} (h : cemStringPos extra i = cemStringPos extra j) :
    i = j := by
  unfold cemStringPos at h
  split at h <;> split at h <;> omega

/-- All three bits of a partition stand in the string `S`, whose first bits are the class bits. -/
theorem CemPos.exists_index (hn : n ≤ 4) (hp : p < n) {i : Nat} (h : CemPos n extra p i) :
    ∃ j < 3 * n, (j = p ∨ j = n + 2 * p ∨ j = n + 2 * p + 1) ∧ i = cemStringPos extra j := by
  obtain rfl | rfl | rfl := h
  · exact ⟨p, by omega, by omega, (if_pos (by omega)).symm⟩
  · exact ⟨_, by omega, by omega, rfl⟩
  · exact ⟨_, by omega, by omega, rfl⟩

/-- The CEM bits stand in bits 28:25 and from `extra` on, below the weights. -/
theorem CemPos.cases (hn : n ≤ 4) (hp : p < n) {i : Nat} (h : CemPos n extra p i) :
    (25 ≤ i ∧ i < 29) ∨ (extra ≤ i ∧ i + 4 < extra + 3 * n) := by
  obtain ⟨j, hj, -, rfl⟩ := h.exists_index hn hp
  unfold cemStringPos
  split <;> omega

/-- The CEMs of two partitions share no position. -/
theorem CemPos.unique (hn : n ≤ 4) (hextra : 29 ≤ extra) (hp : p < n) {k i : Nat} (hk : k < n)
    (h : CemPos n extra p i) (h' : CemPos n extra k i) : p = k := by
  obtain ⟨j, -, hj, rfl⟩ := h.exists_index hn hp
  obtain ⟨j', -, hj', he⟩ := h'.exists_index hn hk
  have := cemStringPos_inj hextra he
  omega

/-- Every position of a CEM is in the block. -/
theorem CemPos.lt (hn : n ≤ 4) (htop : extra + 3 * n ≤ 132) (hp : p < n) {i : Nat} (h : CemPos n extra p i) :
    i < 128 := by
  have := h.cases hn hp
  omega

theorem getLsbD_putCem_of_not_cemPos (hn : n ≤ 4) (htop : extra + 3 * n ≤ 132) (hp : p < n) (sel cem : Nat) {i : Nat}
    (buf : Block) (hi : ¬ CemPos n extra p i) : (putCem n extra sel p cem buf).getLsbD i = buf.getLsbD i := by
  have hpos {j : Nat} (hj : CemPos n extra p j) : j < 128 := hj.lt hn htop hp
  unfold CemPos at hi
  push Not at hi
  obtain ⟨hc, h0, h1⟩ := hi
  rw [putCem, getLsbD_setBit _ _ (hpos (.inr (.inr rfl))), if_neg h1, getLsbD_setBit _ _ (hpos (.inr (.inl rfl))),
    if_neg h0, getLsbD_setBit _ _ (hpos (.inl rfl)), if_neg hc]

theorem holdsCem_putCem (hn : n ≤ 4) (hextra : 29 ≤ extra) (htop : extra + 3 * n ≤ 132) (hp : p < n) (sel cem : Nat)
    (buf : Block) : HoldsCem (putCem n extra sel p cem buf) n extra sel p cem := by
  have hpos {j : Nat} (hj : CemPos n extra p j) : j < 128 := hj.lt hn htop hp
  have hne {i j : Nat} (h : i ≠ j) : cemStringPos extra i ≠ cemStringPos extra j := mt (cemStringPos_inj hextra) h
  have hclass : 25 + p = cemStringPos extra p := (if_pos (by omega)).symm
  have hset (b : Block) (i x : Nat) := getLsbD_setBit (buf := b) i x (hpos (.inr (.inr rfl)))
  have hset0 (b : Block) (i x : Nat) := getLsbD_setBit (buf := b) i x (hpos (.inr (.inl rfl)))
  refine ⟨?_, ?_, ?_⟩
  · have hp128 := hpos (.inl rfl)
    rw [hclass] at hp128
    rw [putCem, hclass, hset, if_neg (hne (by omega)), hset0, if_neg (hne (by omega)), getLsbD_setBit _ _ hp128,
      if_pos rfl]
    split <;> simp [*]
  · rw [putCem, hset, if_neg (hne (by omega)), hset0, if_pos rfl]
    simp [Nat.testBit_zero]
  · rw [putCem, hset, if_pos rfl, Nat.testBit_zero, Nat.testBit_succ, Nat.testBit_zero,
      show cem % 4 / 2 % 2 = cem / 2 % 2 by omega]

end

section
variable {n extra : Nat}

theorem getLsbD_putIndependentCems_of_not_cemPos (hn : n ≤ 4) (htop : extra + 3 * n ≤ 132) (sel : Nat) {i : Nat}
    {cems : List Nat} {p : Nat} (buf : Block) (hp : p + cems.length ≤ n)
    (hi : ∀ k, p ≤ k → k < p + cems.length → ¬ CemPos n extra k i) :
    (putIndependentCems n extra sel buf p cems).getLsbD i = buf.getLsbD i := by
  induction cems generalizing p buf with
  | nil => rfl
  | cons cem rest ih =>
    rw [List.length_cons] at hp hi
    rw [putIndependentCems_cons, ih _ (by omega) fun k hpk hk => hi k (by omega) (by omega),
      getLsbD_putCem_of_not_cemPos hn htop (by omega) sel cem buf (hi p le_rfl (by omega))]

/-- R360: when all CEMs are written, each one stands in the block. -/
theorem holdsCem_putIndependentCems (hn : n ≤ 4) (hextra : 29 ≤ extra) (htop : extra + 3 * n ≤ 132) (sel : Nat)
    {cems : List Nat} {p k : Nat} (buf : Block) (hp : p + cems.length ≤ n) (hk : k < cems.length) :
    HoldsCem (putIndependentCems n extra sel buf p cems) n extra sel (p + k) cems[k] := by
  induction cems generalizing p buf k with
  | nil => exact absurd hk (Nat.not_lt_zero k)
  | cons cem rest ih =>
    rw [List.length_cons] at hp hk
    rw [putIndependentCems_cons]
    cases k with
    | zero =>
      refine (holdsCem_putCem hn hextra htop (by omega) sel cem buf).congr fun i hi => Eq.symm ?_
      refine getLsbD_putIndependentCems_of_not_cemPos hn htop sel _ (by omega) fun k hpk hk hki => ?_
      have := hi.unique hn hextra (by omega) (by omega) hki
      omega
    | succ k =>
      rw [← Nat.add_assoc, Nat.add_right_comm]
      exact ih _ (by omega) (by omega)

end

/-! ### Legal parameters (R355 to R357) -/

section
variable {v : BitVec 45}

theorem normalParams_n_eq (v : BitVec 45) : (normalParams v).n = nbNpart v + 1 := rfl

theorem normalParams_n_le (v : BitVec 45) : (normalParams v).n ≤ 4 := bitsOf_lt v.toNat 17 16

theorem normalParams_single_of_one (h : (normalParams v).n = 1) : (normalParams v).single = true := by
  show ((normalParams v).n == 1 || nbSingleCem v) = true
  rw [h]
  rfl

theorem normalParams_cems_eq (v : BitVec 45) : (normalParams v).cems
    = (List.range (normalParams v).n).map fun p => if (normalParams v).single then nbCem v 0 else nbCem v p := rfl

theorem length_normalParams_cems (v : BitVec 45) : (normalParams v).cems.length = (normalParams v).n := by
  rw [normalParams_cems_eq, List.length_map, List.length_range]

theorem nbCem_lt (v : BitVec 45) (p : Nat) : nbCem v p < 16 := Nat.mod_lt _ (by decide)

theorem normalParams_cem_lt {cem : Nat} (h : cem ∈ (normalParams v).cems) : cem < 16 := by
  rw [normalParams_cems_eq] at h
  obtain ⟨p, -, rfl⟩ := List.mem_map.mp h
  split <;> exact nbCem_lt v _

theorem normalParams_cems_of_single (h : (normalParams v).single = true) :
    (normalParams v).cems = List.replicate (normalParams v).n (nbCem v 0) := by
  rw [normalParams_cems_eq]
  simp [h]

theorem normalParams_headD_of_single (h : (normalParams v).single = true) :
    (normalParams v).cems.headD 0 = nbCem v 0 := by
  rw [normalParams_cems_of_single h, normalParams_n_eq, List.replicate_succ, List.headD_cons]

end

theorem rangeCode_of_weightIse : ∀ ise ∈ weightIseList, ∃ r < 8, ∃ high,
    rangeCode (iseRangeMax ise) = some (r, high) ∧ (ise ∈ lowWeightIseList → high = false) := by decide

/-- The colour data and the selector lie between the fields below them and the extra CEM bits, and these end where the
weights begin (R355, R359). -/
theorem extraPos_eq {n nwb : Nat} {single dual : Bool} (hn : 1 ≤ n) (hn4 : n ≤ 4) (h1 : n = 1 → single = true)
    (hfit : 0 ≤ colourBits n single dual nwb) :
    extraPos n single nwb = colourStart n + (colourBits n single dual nwb).toNat + (if dual then 2 else 0)
      ∧ extraPos n single nwb + (if single then 0 else 3 * n - 4) = 128 - nwb := by
  unfold colourBits configBits extraPos colourStart at *
  generalize (if dual = true then 2 else 0) = d at *
  cases single with
  | true => simp only [if_true] at *; split at hfit <;> simp only [*, if_true, if_false] <;> omega
  | false =>
    have hne : n ≠ 1 := fun h => absurd (h1 h) (by decide)
    simp only [if_neg hne, Bool.false_eq_true, if_false] at *
    split <;> [skip; split] <;> omega

/-- What L1 to L6 of R357 give to the encoder. -/
structure LegalParams (v : BitVec 45) (ise : IseParams) : Prop where
  ise_mem : ise ∈ weightIseList
  layout : ∃ l, layoutOf (nbGridW v) (nbGridH v) = some l ∧ (l = 9 → nbDual v = false ∧ ise ∈ lowWeightIseList)
  classes : (normalParams v).single = true ∨ maxClass (normalParams v).cems ≤ minClass (normalParams v).cems + 1
  nw_le : (normalParams v).nw ≤ 64
  nwb_le : (normalParams v).nwb ise ≤ 96
  ncev_le : (normalParams v).ncev ≤ 18
  colours_fit : (ceilDiv (13 * (normalParams v).ncev) 5 : Nat) ≤ (normalParams v).ncb ise

theorem legalParams_of_legalWeightIse {cfg : BitVec 6} {v : BitVec 45} {ise : IseParams}
    (h : legalWeightIse cfg v = some ise) : LegalParams v ise := by
  unfold legalWeightIse at h
  split at h
  · cases h
  · split at h
    · rename_i hlegal
      cases h
      simp only [paramsLegal, validParams, Bool.and_eq_true, Bool.or_eq_true, decide_eq_true_eq, List.contains_iff_mem,
        bne_iff_ne] at hlegal
      obtain ⟨⟨⟨⟨⟨-, hmem⟩, hlayout⟩, h9⟩, hclass⟩, hvalid⟩ := hlegal
      obtain ⟨⟨⟨⟨⟨⟨⟨hnw, -⟩, hnwb⟩, -⟩, -⟩, -⟩, hncev⟩, hfit⟩ := hvalid
      obtain ⟨l, hl⟩ := Option.isSome_iff_exists.mp hlayout
      refine ⟨hmem, ⟨l, hl, fun hl9 => ?_⟩, hclass.imp_right fun _ => by omega, hnw, hnwb, hncev, hfit⟩
      obtain hne | ⟨hdual, hlow⟩ := h9
      · exact absurd (hl9 ▸ hl) hne
      · exact ⟨(Bool.not_eq_true' _).mp hdual, hlow⟩
    · cases h

section
variable {v : BitVec 45} {ise : IseParams} (h : LegalParams v ise)
include h

theorem LegalParams.layout_eq :
    (normalParams v).extra ise
        = colourStart (normalParams v).n + ((normalParams v).ncb ise).toNat + (if nbDual v then 2 else 0)
      ∧ (normalParams v).extra ise + (if (normalParams v).single then 0 else 3 * (normalParams v).n - 4)
        = 128 - (normalParams v).nwb ise := by
  have hfit := h.colours_fit
  exact extraPos_eq (Nat.succ_pos _) (normalParams_n_le v) normalParams_single_of_one
    (le_trans (Int.natCast_nonneg _) hfit)

/-- The pair chosen for the colours is one of the list and fits (R355, R135). -/
theorem LegalParams.cise_spec : (normalParams v).cise ise ∈ colourIseList
    ∧ iseRequiredBits ((normalParams v).cise ise) (normalParams v).ncev ≤ ((normalParams v).ncb ise).toNat := by
  have hmem : (⟨.trit, 1⟩ : IseParams) ∈ colourIseList := by decide
  have hfit : iseRequiredBits ⟨.trit, 1⟩ (normalParams v).ncev ≤ ((normalParams v).ncb ise).toNat := by
    have := h.colours_fit
    rw [iseRequiredBits_trit_one]
    omega
  obtain ⟨hin, hfits, -⟩ := colourIseParams_spec hmem hfit
  exact ⟨hin, hfits⟩

/-- L4 and L2 give the mode that the writer makes (R174, R178). -/
theorem LegalParams.exists_normalMode : ∃ m, NormalMode m { BlockModeInfo.empty with
    isDualPlane := nbDual v, gridW := nbGridW v, gridH := nbGridH v, ise := ise } := by
  obtain ⟨l, hl, h9⟩ := h.layout
  obtain ⟨r, -, high, hr, hlow⟩ := rangeCode_of_weightIse _ h.ise_mem
  exact exists_normalMode_of_rangeCode hr hl fun hl9 => ⟨(h9 hl9).1, hlow (h9 hl9).2⟩

end

/-! ### The classes of independent CEMs (R357, R360) -/

theorem foldl_max_le_iff {l : List Nat} {a b : Nat} : l.foldl max a ≤ b ↔ a ≤ b ∧ ∀ x ∈ l, x ≤ b := by
  induction l generalizing a with
  | nil => simp
  | cons x l ih => simp [ih, and_assoc]

theorem le_foldl_min_iff {l : List Nat} {a b : Nat} : b ≤ l.foldl min a ↔ b ≤ a ∧ ∀ x ∈ l, b ≤ x := by
  induction l generalizing a with
  | nil => simp
  | cons x l ih => simp [ih, and_assoc]

theorem class_le_maxClass {cems : List Nat} {cem : Nat} (h : cem ∈ cems) : cem / 4 ≤ maxClass cems :=
  (foldl_max_le_iff.mp le_rfl).2 _ (List.mem_map_of_mem h)

theorem minClass_le_class {cems : List Nat} {cem : Nat} (h : cem ∈ cems) : minClass cems ≤ cem / 4 :=
  (le_foldl_min_iff.mp le_rfl).2 _ (List.mem_map_of_mem h)

theorem maxClass_normalParams_le (v : BitVec 45) : maxClass (normalParams v).cems ≤ 3 := by
  refine foldl_max_le_iff.mpr ⟨Nat.zero_le _, fun x hx => ?_⟩
  obtain ⟨cem, hcem, rfl⟩ := List.mem_map.mp hx
  have := normalParams_cem_lt hcem
  omega

theorem cemSelector_eq (cems : List Nat) : cemSelector cems = max 1 (maxClass cems) := rfl

/-- `SEL` is not 0, which marks a shared CEM, and each class is `SEL` or the one below it. -/
theorem LegalParams.cemSelector_spec {v : BitVec 45} {ise : IseParams} (h : LegalParams v ise)
    (hs : (normalParams v).single = false) :
    1 ≤ cemSelector (normalParams v).cems ∧ cemSelector (normalParams v).cems < 4
      ∧ ∀ cem ∈ (normalParams v).cems, cem / 4 = cemSelector (normalParams v).cems
        ∨ cem / 4 + 1 = cemSelector (normalParams v).cems := by
  have hclass := h.classes.resolve_left (by simp [hs])
  have hmax := maxClass_normalParams_le v
  rw [cemSelector_eq]
  refine ⟨by omega, by omega, fun cem hcem => ?_⟩
  have hle := class_le_maxClass hcem
  have hge := minClass_le_class hcem
  omega

/-! ### The parts of the block (R358) -/

/-- The block mode, the number of partitions and the seed. -/
def normalHead (v : BitVec 45) (ise : IseParams) : Block :=
  let q := normalParams v
  let buf := setBits (setBits 0 0 10 ((writeBlockMode q.gridW q.gridH ise q.dual).getD 0)) 11 12 (q.n - 1)
  if q.n = 1 then buf else setBits buf 13 22 (nbSeed v)

/-- The CEM fields on top of the head. -/
def normalCems (v : BitVec 45) (ise : IseParams) : Block :=
  putCems (normalParams v) ((normalParams v).extra ise) (normalHead v ise)

/-- Everything but the two sequences. -/
def normalHeader (v : BitVec 45) (ise : IseParams) : Block :=
  let q := normalParams v
  if q.dual then setBits (normalCems v ise) (q.extra ise - 2) (q.extra ise - 1) (nbCcs v) else normalCems v ise

/-- Everything but the colour sequence. -/
def normalWeights (v : BitVec 45) (ise : IseParams) (w : IseInput) : Block :=
  let q := normalParams v
  encodeIse (normalHeader v ise) (weightCursor (q.nwb ise)) ise w q.nw

theorem normalBlock_eq (v : BitVec 45) (ise : IseParams) (w e : IseInput) :
    normalBlock v ise w e = encodeIse (normalWeights v ise w)
      (colourCursor (normalParams v).n ((normalParams v).ncb ise).toNat) ((normalParams v).cise ise) e
      (normalParams v).ncev := rfl

theorem putCems_of_one {q : NormalParams} (h : q.n = 1) (extra : Nat) (buf : Block) :
    putCems q extra buf = setBits buf 13 16 (q.cems.headD 0) := if_pos h

theorem putCems_of_shared {q : NormalParams} (h : q.n ≠ 1) (hs : q.single = true) (extra : Nat) (buf : Block) :
    putCems q extra buf = setBits (setBits buf 23 24 0) 25 28 (q.cems.headD 0) := (if_neg h).trans (if_pos hs)

theorem putCems_of_independent {q : NormalParams} (h : q.n ≠ 1) (hs : q.single = false) (extra : Nat) (buf : Block) :
    putCems q extra buf
      = putIndependentCems q.n extra (cemSelector q.cems) (setBits buf 23 24 (cemSelector q.cems)) 0 q.cems :=
  (if_neg h).trans (if_neg (by simp [hs]))

section
variable {v : BitVec 45} {ise : IseParams}

theorem getLsbD_normalHead_of_lt {i : Nat} (hi : i < 13) : (normalHead v ise).getLsbD i
    = (setBits (setBits 0 0 10 ((writeBlockMode (nbGridW v) (nbGridH v) ise (nbDual v)).getD 0)) 11 12
        ((normalParams v).n - 1)).getLsbD i := by
  unfold normalHead
  dsimp only
  split
  · rfl
  · exact getLsbD_setBits_of_outside _ (by omega) (by omega) (.inl hi)

theorem getBits_normalHead_mode {m : Nat} (hm : m < 2 ^ 11)
    (hw : writeBlockMode (nbGridW v) (nbGridH v) ise (nbDual v) = some m) :
    getBits (normalHead v ise).toNat 0 10 = m := by
  rw [getBits_congr (by omega) fun i _ hi => (getLsbD_normalHead_of_lt (by omega)).trans
    (getLsbD_setBits_of_outside _ (by omega) (by omega) (.inl (by omega))), hw]
  exact getBits_setBits (by omega) (by omega) hm

theorem getBits_normalHead_count : getBits (normalHead v ise).toNat 11 12 + 1 = (normalParams v).n := by
  have hn := normalParams_n_eq v
  have hn4 := normalParams_n_le v
  rw [getBits_congr (by omega) fun i _ hi => getLsbD_normalHead_of_lt (by omega),
    getBits_setBits (by omega) (by omega) (by omega)]
  omega

theorem getBits_normalHead_seed (hn : (normalParams v).n ≠ 1) :
    getBits (normalHead v ise).toNat 13 22 = nbSeed v := by
  rw [normalHead, if_neg hn]
  exact getBits_setBits (by omega) (by omega) (bitsOf_lt _ _ _)

end

section
variable {v : BitVec 45} {ise : IseParams} (h : LegalParams v ise)
include h

/-- The string `S` of independent CEMs lies above every other field and below the weights. -/
theorem LegalParams.string_bounds (hs : (normalParams v).single = false) :
    (normalParams v).n ≠ 1 ∧ 29 ≤ (normalParams v).extra ise
      ∧ (normalParams v).extra ise + 3 * (normalParams v).n ≤ 132 := by
  obtain ⟨hstart, htop⟩ := h.layout_eq
  have hn : (normalParams v).n ≠ 1 := fun hn => by simp [normalParams_single_of_one hn] at hs
  rw [colourStart, if_neg hn] at hstart
  rw [hs, if_neg (by decide)] at htop
  exact ⟨hn, by omega, by omega⟩

/-- The CEM fields leave the head as it was. -/
theorem LegalParams.getLsbD_normalCems {i : Nat} (hi : i < 13 ∨ (normalParams v).n ≠ 1 ∧ i < 23) :
    (normalCems v ise).getLsbD i = (normalHead v ise).getLsbD i := by
  rw [normalCems]
  by_cases hn : (normalParams v).n = 1
  · rw [putCems_of_one hn, getLsbD_setBits_of_outside _ (by omega) (by omega) (by omega)]
  cases hs : (normalParams v).single with
  | true =>
    rw [putCems_of_shared hn hs, getLsbD_setBits_of_outside _ (by omega) (by omega) (by omega),
      getLsbD_setBits_of_outside _ (by omega) (by omega) (by omega)]
  | false =>
    obtain ⟨-, hlow, htop⟩ := h.string_bounds hs
    have hn4 := normalParams_n_le v
    have hlen := length_normalParams_cems v
    rw [putCems_of_independent hn hs,
      getLsbD_putIndependentCems_of_not_cemPos hn4 htop _ _ (by omega) fun k _ hk hik => ?_,
      getLsbD_setBits_of_outside _ (by omega) (by omega) (by omega)]
    have := hik.cases hn4 (by omega)
    omega

/-- The selector stands between the colour data and the extra CEM bits (R361). -/
theorem LegalParams.getLsbD_normalHeader {i : Nat}
    (hi : i < colourStart (normalParams v).n ∨ (normalParams v).extra ise ≤ i) :
    (normalHeader v ise).getLsbD i = (normalCems v ise).getLsbD i := by
  obtain ⟨hstart, htop⟩ := h.layout_eq
  have hdual : (normalParams v).dual = nbDual v := rfl
  unfold normalHeader
  dsimp only
  rw [hdual]
  split
  · rename_i hd
    rw [if_pos hd] at hstart
    exact getLsbD_setBits_of_outside _ (by omega) (by omega) (by omega)
  · rfl

/-- The sequences stand in the weight bits and in the colour bits (R364, R365). -/
theorem LegalParams.getLsbD_normalBlock (w e : IseInput) {i : Nat}
    (hc : i < colourStart (normalParams v).n
      ∨ colourStart (normalParams v).n + ((normalParams v).ncb ise).toNat ≤ i)
    (hw : i + (normalParams v).nwb ise < 128) :
    (normalBlock v ise w e).getLsbD i = (normalHeader v ise).getLsbD i := by
  obtain ⟨hstart, htop⟩ := h.layout_eq
  have hnwb := h.nwb_le
  rw [normalBlock_eq, encodeIse, Cursor.getLsbD_putAll_of_not_spans (colourCursor_inBlock (by omega))
      (by rw [colourCursor_spans_iff]; omega), normalWeights, encodeIse,
    Cursor.getLsbD_putAll_of_not_spans (weightCursor_inBlock (by omega)) (by rw [weightCursor_spans_iff]; omega)]

/-- The fields below the CEMs are read from the block as from its head. -/
theorem LegalParams.getBits_normalBlock_head (w e : IseInput) {low high : Nat} (hl : low ≤ high)
    (hh : high < 13 ∨ (normalParams v).n ≠ 1 ∧ high < 23) :
    getBits (normalBlock v ise w e).toNat low high = getBits (normalHead v ise).toNat low high := by
  obtain ⟨hstart, htop⟩ := h.layout_eq
  have hnwb := h.nwb_le
  have hlt : high < colourStart (normalParams v).n := by
    unfold colourStart
    split <;> omega
  refine getBits_congr hl fun i _ hi => ?_
  rw [h.getLsbD_normalBlock w e (.inl (by omega)) (by omega), h.getLsbD_normalHeader (.inl (by omega)),
    h.getLsbD_normalCems (by omega)]

/-- The CEM fields are in the block as they were written. -/
theorem LegalParams.getLsbD_normalBlock_cems (w e : IseInput) {i : Nat}
    (hi : i < colourStart (normalParams v).n
      ∨ (normalParams v).extra ise ≤ i ∧ i + (normalParams v).nwb ise < 128) :
    (normalBlock v ise w e).getLsbD i = (normalCems v ise).getLsbD i := by
  obtain ⟨hstart, htop⟩ := h.layout_eq
  have hnwb := h.nwb_le
  rw [h.getLsbD_normalBlock w e (by omega) (by omega), h.getLsbD_normalHeader (by omega)]

/-! ### The fields read back (R367) -/

theorem LegalParams.parseBlockMode_normalBlock (w e : IseInput) :
    parseBlockMode (getBits (normalBlock v ise w e).toNat 0 10) = { BlockModeInfo.empty with
      isDualPlane := nbDual v, gridW := nbGridW v, gridH := nbGridH v, ise := ise } := by
  obtain ⟨m, hm⟩ := h.exists_normalMode
  rw [h.getBits_normalBlock_head w e (by omega) (by omega), getBits_normalHead_mode hm.lt hm.write, hm.parse]

theorem LegalParams.decodeCems_normalBlock_one (w e : IseInput) (hn : (normalParams v).n = 1) (extra : Nat) :
    decodeCems (normalBlock v ise w e).toNat 1 extra = (normalParams v).cems := by
  have hs := normalParams_single_of_one hn
  rw [decodeCems, if_pos rfl, getBits_congr (by omega) fun i _ hi =>
      h.getLsbD_normalBlock_cems w e (.inl (by rw [colourStart, if_pos hn]; omega)),
    normalCems, putCems_of_one hn, normalParams_headD_of_single hs,
    getBits_setBits (by omega) (by omega) (nbCem_lt v 0), normalParams_cems_of_single hs, hn]
  rfl

theorem LegalParams.decodeCems_normalBlock_shared (w e : IseInput) (hn : (normalParams v).n ≠ 1)
    (hs : (normalParams v).single = true) (extra : Nat) :
    decodeCems (normalBlock v ise w e).toNat (normalParams v).n extra = (normalParams v).cems := by
  have hbits {low high : Nat} (hl : low ≤ high) (hh : high < 29) :
      getBits (normalBlock v ise w e).toNat low high = getBits (normalCems v ise).toNat low high :=
    getBits_congr hl fun i _ hi => h.getLsbD_normalBlock_cems w e (.inl (by rw [colourStart, if_neg hn]; omega))
  have hsel : getBits (normalCems v ise).toNat 23 24 = 0 := by
    rw [normalCems, putCems_of_shared hn hs, getBits_congr (by omega) fun i _ hi =>
      getLsbD_setBits_of_outside _ (by omega) (by omega) (.inl (by omega))]
    exact getBits_setBits (by omega) (by omega) (by decide)
  have hcem : getBits (normalCems v ise).toNat 25 28 = nbCem v 0 := by
    rw [normalCems, putCems_of_shared hn hs, normalParams_headD_of_single hs]
    exact getBits_setBits (by omega) (by omega) (nbCem_lt v 0)
  rw [decodeCems, if_neg hn, hbits (by omega) (by omega), hbits (by omega) (by omega), if_pos hsel, hcem,
    normalParams_cems_of_single hs]

theorem LegalParams.decodeCems_normalBlock_independent (w e : IseInput) (hs : (normalParams v).single = false) :
    decodeCems (normalBlock v ise w e).toNat (normalParams v).n ((normalParams v).extra ise)
      = (normalParams v).cems := by
  obtain ⟨hn, hlow, htop⟩ := h.string_bounds hs
  obtain ⟨hpos, hlt, hclass⟩ := h.cemSelector_spec hs
  obtain ⟨-, hweights⟩ := h.layout_eq
  rw [hs, if_neg (by decide)] at hweights
  have hn4 := normalParams_n_le v
  have hlen := length_normalParams_cems v
  have hstart : colourStart (normalParams v).n = 29 := if_neg hn
  have hsel : getBits (normalBlock v ise w e).toNat 23 24 = cemSelector (normalParams v).cems := by
    rw [getBits_congr (by omega) fun i _ hi => h.getLsbD_normalBlock_cems w e (.inl (by omega)), normalCems,
      putCems_of_independent hn hs, getBits_congr (by omega) fun i _ hi =>
        getLsbD_putIndependentCems_of_not_cemPos hn4 htop _ _ (by omega) fun k _ hk hik => by
          have := hik.cases hn4 (by omega)
          omega]
    exact getBits_setBits (by omega) (by omega) hlt
  rw [decodeCems, if_neg hn, hsel, if_neg (by omega)]
  refine List.ext_getElem (by simp [hlen]) fun p hp hp' => ?_
  rw [List.getElem_map, List.getElem_range]
  refine independentCem_of_holdsCem (HoldsCem.congr (a := normalCems v ise) ?_ fun i hi => Eq.symm ?_)
    (hclass _ (List.getElem_mem hp'))
  · have hheld := holdsCem_putIndependentCems hn4 hlow htop (cemSelector (normalParams v).cems)
      (setBits (normalHead v ise) 23 24 (cemSelector (normalParams v).cems)) (p := 0) (by omega) hp'
    rwa [Nat.zero_add, ← putCems_of_independent hn hs] at hheld
  · refine h.getLsbD_normalBlock_cems w e ?_
    have := hi.cases hn4 (by omega)
    omega

theorem LegalParams.decodeCems_normalBlock (w e : IseInput) :
    decodeCems (normalBlock v ise w e).toNat (normalParams v).n ((normalParams v).extra ise)
      = (normalParams v).cems := by
  by_cases hn : (normalParams v).n = 1
  · rw [hn]
    exact h.decodeCems_normalBlock_one w e hn _
  · cases hs : (normalParams v).single with
    | true => exact h.decodeCems_normalBlock_shared w e hn hs _
    | false => exact h.decodeCems_normalBlock_independent w e hs

theorem LegalParams.selector_normalBlock (w e : IseInput) (hd : nbDual v = true) :
    getBits (normalBlock v ise w e).toNat ((normalParams v).extra ise - 2) ((normalParams v).extra ise - 1)
      = nbCcs v := by
  obtain ⟨hstart, htop⟩ := h.layout_eq
  have hnwb := h.nwb_le
  have hdual : (normalParams v).dual = true := hd
  rw [if_pos hd] at hstart
  rw [getBits_congr (by omega) fun i _ hi => h.getLsbD_normalBlock w e (.inr (by omega)) (by omega), normalHeader,
    if_pos hdual]
  refine getBits_setBits (by omega) (by omega) ?_
  rw [show (normalParams v).extra ise - 1 - ((normalParams v).extra ise - 2) = 15 - 14 by omega]
  exact bitsOf_lt _ _ _

/-! ### The sequences read back (R364 to R367) -/

theorem LegalParams.weights_normalBlock {w : IseInput} (e : IseInput) (hform : w.form = .plain)
    (hr : iseInputInRange ise w (normalParams v).nw = true) :
    (decodeIse (normalBlock v ise w e).toNat (weightCursor ((normalParams v).nwb ise)) ise (normalParams v).nw).map
      (·.v) = (plainValues w).take (normalParams v).nw := by
  obtain ⟨hstart, htop⟩ := h.layout_eq
  have hnwb := h.nwb_le
  have hcur : (weightCursor ((normalParams v).nwb ise)).InBlock := weightCursor_inBlock (by omega)
  have hheld : (weightCursor ((normalParams v).nwb ise)).Holds (normalWeights v ise w).toNat
      (iseSequence ise w (normalParams v).nw) := Cursor.holds_putAll hcur _ _
  refine decodeIse_of_holds h.nw_le hform hr (hheld.congr hcur fun i hi => Eq.symm ?_) (Nat.zero_add _).le
  rw [weightCursor_spans_iff] at hi
  exact Cursor.getLsbD_putAll_of_not_spans (colourCursor_inBlock (by omega))
    (by rw [colourCursor_spans_iff]; omega) _ _

theorem LegalParams.colours_normalBlock (w : IseInput) {e : IseInput} (hform : e.form = .plain)
    (hr : iseInputInRange ((normalParams v).cise ise) e (normalParams v).ncev = true) :
    (decodeIse (normalBlock v ise w e).toNat (colourCursor (normalParams v).n ((normalParams v).ncb ise).toNat)
      ((normalParams v).cise ise) (normalParams v).ncev).map (·.v) = (plainValues e).take (normalParams v).ncev := by
  obtain ⟨hstart, htop⟩ := h.layout_eq
  have hncev := h.ncev_le
  obtain ⟨-, hfits⟩ := h.cise_spec
  exact decodeIse_of_holds (by omega) hform hr
    (Cursor.holds_putAll (colourCursor_inBlock (by omega)) _ _) ((Nat.zero_add _).trans_le hfits)

end

end Sys2Proof.Machine

open Sys2Proof Sys2Proof.Machine

/-- Settles O28: no later part of the block touches the bits of a field, and for legal parameters the reader of each
field undoes its writer. -/
theorem encNormalFieldsReadBack : Obligations.EncNormalFieldsReadBack := by
  intro cfg v ise w e hlegal q b
  have h := legalParams_of_legalWeightIse hlegal
  refine ⟨h.parseBlockMode_normalBlock w e, ?_, h.decodeCems_normalBlock w e, fun hn => ?_,
    h.selector_normalBlock w e⟩
  · exact (congrArg (· + 1) (h.getBits_normalBlock_head w e (by omega) (by omega))).trans getBits_normalHead_count
  · exact (h.getBits_normalBlock_head w e (by omega) (.inr ⟨hn, by omega⟩)).trans (getBits_normalHead_seed hn)

/-- Settles O29: the two streams do not meet, and each was written with the cursor it is read with. -/
theorem encNormalSequencesReadBack : Obligations.EncNormalSequencesReadBack := by
  intro cfg v ise w e hlegal hinputs hw he q b
  have h := legalParams_of_legalWeightIse hlegal
  obtain ⟨hweights, hcolours⟩ := Bool.and_eq_true_iff.mp hinputs
  exact ⟨h.weights_normalBlock e hw hweights, h.colours_normalBlock w he hcolours⟩
end

section
/-! The commands that encode: O25, O27, O30, O31. -/

namespace Sys2Proof.Machine

/-! ### `ENC_VOID` (R352) -/

theorem exec_encVoid (s : State) : exec .encVoid s = execEncVoid s := rfl

theorem voidParamsBad_iff (p : BitVec 65) : voidParamsBad p = true ↔ veIsHdr p = true
    ∧ (getBits (veR p) 10 14 = 31 ∨ getBits (veG p) 10 14 = 31 ∨ getBits (veB p) 10 14 = 31
      ∨ getBits (veA p) 10 14 = 31) := by
  simp only [voidParamsBad, Bool.and_eq_true, Bool.or_eq_true, f16IsInfOrNan_iff, or_assoc]

/-- The void-extent block by its fields (R352). -/
theorem voidBlock_eq_ofNat (p : BitVec 65) : voidBlock p = BitVec.ofNat 128 (0x1FC + (veIsHdr p).toNat * 2 ^ 9
    + 3 * 2 ^ 10 + 0x1FFF * 2 ^ 12 + 0x1FFF * 2 ^ 25 + 0x1FFF * 2 ^ 38 + 0x1FFF * 2 ^ 51 + veR p * 2 ^ 64
    + veG p * 2 ^ 80 + veB p * 2 ^ 96 + veA p * 2 ^ 112) := by
  have hw := toNat_voidBlock p
  have hlt := (voidBlock p).isLt
  rw [← BitVec.toNat_inj, BitVec.toNat_ofNat]
  omega

/-! ### `ENC_NORMAL` and `GEN_DEFAULT` under R357 -/

theorem exec_encNormal (s : State) : exec .encNormal s = execEncNormal s := rfl

theorem exec_genDefault (s : State) : exec .genDefault s = execGenDefault s := rfl

section
variable {s : State}

theorem execEncNormal_of_reservedFmt (hf : 14 ≤ cfgFmt s.cfg) : execEncNormal s = refuse .cfgInvalid s := if_pos hf

theorem execGenDefault_of_reservedFmt (hf : 14 ≤ cfgFmt s.cfg) : execGenDefault s = refuse .cfgInvalid s := if_pos hf

theorem execEncNormal_of_illegal (hf : cfgFmt s.cfg < 14) (hl : legalWeightIse s.cfg s.nbParams = none) :
    execEncNormal s = refuse .encParam s := by
  rw [execEncNormal, if_neg (by omega), hl]

theorem execGenDefault_of_illegal (hf : cfgFmt s.cfg < 14) (hl : legalWeightIse s.cfg s.nbParams = none) :
    execGenDefault s = refuse .encParam s := by
  rw [execGenDefault, if_neg (by omega), hl]

variable {ise : IseParams}

theorem execEncNormal_of_legal (hf : cfgFmt s.cfg < 14) (hl : legalWeightIse s.cfg s.nbParams = some ise) :
    execEncNormal s = if inputsInRange (normalParams s.nbParams) ise s.wIseIn s.eIseIn = true then
        succeed { s with blkOut := normalBlock s.nbParams ise s.wIseIn s.eIseIn }
      else refuse .encParam s := by
  rw [execEncNormal, if_neg (by omega), hl]

theorem execEncNormal_of_inRange (hf : cfgFmt s.cfg < 14) (hl : legalWeightIse s.cfg s.nbParams = some ise)
    (hr : inputsInRange (normalParams s.nbParams) ise s.wIseIn s.eIseIn = true) :
    execEncNormal s = succeed { s with blkOut := normalBlock s.nbParams ise s.wIseIn s.eIseIn } :=
  (execEncNormal_of_legal hf hl).trans (if_pos hr)

/-- The state after `GEN_DEFAULT` on legal parameters (R368). -/
def generated (ise : IseParams) (s : State) : State :=
  endCommand .none false { s with
    wIseIn := defaultWeights (normalParams s.nbParams) ise s.wIseIn
    eIseIn := defaultEndpoints (normalParams s.nbParams) ise s.eIseIn }

theorem execGenDefault_of_legal (hf : cfgFmt s.cfg < 14) (hl : legalWeightIse s.cfg s.nbParams = some ise) :
    execGenDefault s = .next (generated ise s) := by
  rw [execGenDefault, if_neg (by omega), hl]
  rfl

/-- `GEN_DEFAULT` writes the two inputs and `STATUS`. -/
theorem generated_eq (ise : IseParams) (s : State) : generated ise s = { endCommand .none false s with
    wIseIn := (generated ise s).wIseIn, eIseIn := (generated ise s).eIseIn } := rfl

theorem generated_status (ise : IseParams) (s : State) : (generated ise s).status = endStatus .none false s.status :=
  rfl

end

/-! ### The gradients (R368) -/

/-- Inside its count the ramp stays at or below its top; a single element has the value 0. -/
theorem gradient_le {top cnt i : Nat} (hi : i < cnt) : gradient top cnt i ≤ top := by
  unfold gradient
  rcases Nat.eq_zero_or_pos (cnt - 1) with h0 | hpos
  · rw [h0, Nat.div_zero]
    exact Nat.zero_le _
  · have hramp : i * top ≤ (cnt - 1) * top := Nat.mul_le_mul_right _ (by omega)
    refine Nat.le_of_lt_succ (Nat.div_lt_of_lt_mul ?_)
    rw [Nat.mul_succ]
    omega

theorem defaultWeight_le (q : NormalParams) (ise : IseParams) {i : Nat} (hi : i < q.nw) :
    defaultWeight q ise i ≤ iseRangeMax ise := by
  unfold defaultWeight
  dsimp only
  split
  · exact Nat.sub_le _ _
  · exact gradient_le hi

theorem iseRangeMax_weightIseList : ∀ p ∈ weightIseList, iseRangeMax p < 256 := by decide

theorem iseRangeMax_colourIseList : ∀ p ∈ colourIseList, iseRangeMax p < 256 := by decide

section
variable {inp : IseInput} {cnt : Nat} {f : Nat → Nat}

theorem fillPlain_form (inp : IseInput) (cnt : Nat) (f : Nat → Nat) : (fillPlain inp cnt f).form = .plain := rfl

theorem fillPlain_block (inp : IseInput) (cnt : Nat) (f : Nat → Nat) : (fillPlain inp cnt f).block = inp.block := rfl

theorem length_plainValues (inp : IseInput) : (plainValues inp).length = 64 := by simp [plainValues]

theorem getD_plainValues (inp : IseInput) {i : Nat} (hi : i < 64) :
    (plainValues inp).getD i 0 = inp.plain[i].toNat := by
  simp [plainValues, hi]

/-- The entries of a filled input (R368). -/
theorem getD_plainValues_fillPlain (hf : ∀ i < cnt, f i < 256) {i : Nat} (hi : i < 64) :
    (plainValues (fillPlain inp cnt f)).getD i 0 = if i < cnt then f i else (plainValues inp).getD i 0 := by
  rw [getD_plainValues _ hi, getD_plainValues _ hi, fillPlain, Vector.getElem_mapIdx]
  split
  · exact Nat.mod_eq_of_lt (hf i ‹_›)
  · rfl

/-- L7 and L8 of R357 hold of an input filled with values of the range. -/
theorem iseInputInRange_fillPlain {p : IseParams} (hp : iseRangeMax p < 256) (hf : ∀ i < cnt, f i ≤ iseRangeMax p) :
    iseInputInRange p (fillPlain inp cnt f) cnt = true := by
  refine List.all_eq_true.mpr fun x hx => decide_eq_true ?_
  obtain ⟨i, hi, rfl⟩ := List.mem_take_iff_getElem.mp hx
  rw [length_plainValues] at hi
  have hfi := hf i (by omega)
  rw [← List.getD_eq_getElem (d := 0), getD_plainValues_fillPlain (fun i hi => (hf i hi).trans_lt hp) (by omega),
    if_pos (by omega)]
  exact hfi

end

section
variable {v : BitVec 45} {ise : IseParams} (h : LegalParams v ise)
include h

theorem LegalParams.cise_lt : iseRangeMax ((normalParams v).cise ise) < 256 :=
  iseRangeMax_colourIseList _ h.cise_spec.1

theorem LegalParams.ise_lt : iseRangeMax ise < 256 := iseRangeMax_weightIseList _ h.ise_mem

theorem LegalParams.inputsInRange_default (w e : IseInput) : inputsInRange (normalParams v) ise
    (defaultWeights (normalParams v) ise w) (defaultEndpoints (normalParams v) ise e) = true :=
  Bool.and_eq_true_iff.mpr ⟨iseInputInRange_fillPlain h.ise_lt fun _ hi => defaultWeight_le _ _ hi,
    iseInputInRange_fillPlain h.cise_lt fun _ hi => gradient_le hi⟩

theorem LegalParams.getD_defaultWeights (w : IseInput) {i : Nat} (hi : i < 64) :
    (plainValues (defaultWeights (normalParams v) ise w)).getD i 0
      = if i < (normalParams v).nw then defaultWeight (normalParams v) ise i else (plainValues w).getD i 0 :=
  getD_plainValues_fillPlain (fun _ hi => (defaultWeight_le _ _ hi).trans_lt h.ise_lt) hi

theorem LegalParams.getD_defaultEndpoints (e : IseInput) {i : Nat} (hi : i < 64) :
    (plainValues (defaultEndpoints (normalParams v) ise e)).getD i 0
      = if i < (normalParams v).ncev then gradient (iseRangeMax ((normalParams v).cise ise)) (normalParams v).ncev i
        else (plainValues e).getD i 0 :=
  getD_plainValues_fillPlain (fun _ hi => (gradient_le hi).trans_lt h.cise_lt) hi

end

end Sys2Proof.Machine

open Sys2Proof Sys2Proof.Machine

/-- Settles O25: the refusal test is that of R354, and the fields of the block do not overlap. -/
theorem encVoidBuildsTheBlock : Obligations.EncVoidBuildsTheBlock := by
  intro s p inf bad
  have hbad : voidParamsBad s.veParams = true ↔ bad := voidParamsBad_iff p
  rw [exec_encVoid, execEncVoid]
  refine ⟨fun hok => ?_, fun hbad' => if_pos (hbad.mpr hbad')⟩
  rw [if_neg (mt hbad.mp hok), voidBlock_eq_ofNat]
  rfl

/-- Settles O27: both commands test the format, then the parameters; only `ENC_NORMAL` looks at the inputs. -/
theorem encodeCommandsCheckLegality : Obligations.EncodeCommandsCheckLegality := by
  intro s
  rw [exec_encNormal, exec_genDefault]
  refine ⟨fun hf => ⟨execEncNormal_of_reservedFmt hf, execGenDefault_of_reservedFmt hf⟩,
    fun hf hl => ⟨execEncNormal_of_illegal hf hl, execGenDefault_of_illegal hf hl⟩, fun ise hf hl => ⟨?_, ?_⟩⟩
  · rw [execEncNormal_of_legal hf hl, succeed_eq, refuse_eq, ← apply_ite Host.Outcome.next]
  · refine ⟨_, execGenDefault_of_legal hf hl, generated_eq ise s, ?_⟩
    rw [generated_status]
    simp [Cause.code]

/-- Settles O30: below the counts the entries are the ramps, which fit a byte. -/
theorem genDefaultWritesTheGradients : Obligations.GenDefaultWritesTheGradients := by
  intro s ise hf hl q wmax cmax ramp
  have h := legalParams_of_legalWeightIse hl
  exact ⟨_, execGenDefault_of_legal hf hl, generated_eq ise s, fillPlain_form _ _ _, fillPlain_form _ _ _,
    fillPlain_block _ _ _, fillPlain_block _ _ _, fun i hi => h.getD_defaultWeights s.wIseIn hi,
    fun i hi => h.getD_defaultEndpoints s.eIseIn hi⟩

/-- Settles O31: the ramps stay in their ranges, so that `ENC_NORMAL` passes the checks that `GEN_DEFAULT` has passed
and also L7 and L8. -/
theorem genDefaultMakesLegalInputs : Obligations.GenDefaultMakesLegalInputs := by
  intro s ise hf hl
  have hrange := (legalParams_of_legalWeightIse hl).inputsInRange_default s.wIseIn s.eIseIn
  refine ⟨_, _, execGenDefault_of_legal hf hl, hrange, execEncNormal_of_inRange (s := generated ise s) hf hl hrange,
    ?_, ?_, rfl⟩
  · simp
  · simp [Cause.code]
end

section
/-! The bounded end of a command, the idle codec, and the writes that are ignored: O54, O55, O56. -/

namespace Sys2Proof.Machine

/-! ### The end of a command -/

/-- How many steps a command can still take from a phase (log 2): the start, the block mode, the partition and CEM
fields. -/
def Phase.stepsLeft : Phase → Nat
  | .idle => 0
  | .endpoint => 1
  | .blockMode => 2
  | .command => 3

theorem Phase.stepsLeft_le (p : Phase) : p.stepsLeft ≤ 3 := by cases p <;> decide

theorem Phase.stepsLeft_pos {p : Phase} (h : p ≠ .idle) : 0 < p.stepsLeft := by
  cases p with
  | idle => exact absurd rfl h
  | command | blockMode | endpoint => decide

/-- A running command has a next instruction, of the space its phase asks for. -/
theorem fetch_of_running {s : State} (hp : s.phase ≠ .idle) :
    ∃ i, fetch s = some i ∧ (i.space = .command → s.phase = .command)
      ∧ (i.space = .blockMode → s.phase = .blockMode) := by
  obtain ⟨hmode, hend, -⟩ := everyBlockMatchesItsRow s.blk
  rw [fetch_eq]
  cases hph : s.phase with
  | idle => exact absurd hph hp
  | command => exact ⟨_, rfl, fun _ => rfl, by simp [decodeCommand_space]⟩
  | blockMode => exact ⟨_, rfl, by simp [hmode], fun _ => rfl⟩
  | endpoint => exact ⟨_, rfl, by simp [hend], by simp [hend]⟩

/-- The end event has taken place: `BUSY` = 0 and `DONE` = 1 (R450), and the codec rests. -/
def State.ended (s : State) : Prop :=
  s.phase = .idle ∧ statusBusy s.status = false ∧ statusDone s.status = true

theorem endCommand_ended (c : Cause) (f : Bool) (s : State) : (endCommand c f s).ended :=
  ⟨rfl, endStatus_busy c f s.status, endStatus_done c f s.status⟩

/-- An instruction ends its command, or latches and leaves fewer steps: a block is latched by a command, a mode by a
block-mode row. -/
theorem Effect.ended_or_advances {i : Instr} {s t : State} (h : Effect i s t)
    (hc : i.space = .command → s.phase = .command) (hm : i.space = .blockMode → s.phase = .blockMode) :
    t.ended ∨ (t.phase ≠ .idle ∧ t.phase.stepsLeft < s.phase.stepsLeft) := by
  cases h with
  | ends | encodes | fills | stores => exact .inl (endCommand_ended _ _ _)
  | latchesBlock c hi => simp [hc hi, Phase.stepsLeft]
  | latchesMode m hi => simp [hm hi, Phase.stepsLeft]

/-- A running command is over after as many steps as its phase leaves it, and the machine rests from then on. -/
theorem run_ends {s : State} (hp : s.phase ≠ .idle) (hh : s.host = []) {k : Nat} (hk : s.phase.stepsLeft ≤ k) :
    ∃ t, Sys2Proof.core.run k s = .next t ∧ t.ended := by
  induction k generalizing s with
  | zero => exact absurd hk (Nat.not_le.mpr (Phase.stepsLeft_pos hp))
  | succ k ih =>
    obtain ⟨i, hfetch, hc, hm⟩ := fetch_of_running hp
    obtain ⟨t, ht, heff⟩ := exec_hasEffect i s
    obtain ⟨-, -, -, -, hhost, -⟩ := heff.inputs
    have hht : t.host = [] := hhost.trans hh
    rw [run_of_step ((step_of_fetch hh hfetch).trans ht)]
    obtain hend | ⟨hpt, hlt⟩ := heff.ended_or_advances hc hm
    · exact ⟨t, run_of_idle hend.1 hht k, hend⟩
    · exact ih hpt hht (by omega)

/-! ### Writes -/

theorem step_of_write {p : Port} {v : Nat} {s : State} {rest : List HostAct} (h : s.host = .write p v :: rest) :
    step s = hostWrite p v { s with host := rest } := by
  simp only [step, h]

theorem hostWrite_eq {p : Port} (v : Nat) (s : State) (hf : portFault p = none) :
    hostWrite p v s = .next (if statusBusy s.status then s else writePort p v s) := by
  simp only [hostWrite, hf]

/-- `STATUS` and `BLK_OUT` are read-only (R452). -/
theorem writePort_readOnly {p : Port} (v : Nat) (s : State) (hp : p = .status ∨ ∃ k, p = .blkOutByte k) :
    writePort p v s = s := by
  obtain rfl | ⟨k, rfl⟩ := hp <;> rfl

end Sys2Proof.Machine

open Sys2Proof.Machine

/-- Settles O54: the invariant makes a phase pending exactly while `BUSY` is 1; from a pending phase every step ends the
command or leaves fewer steps, and an idle machine rests. -/
theorem commandsEnd : Obligations.CommandsEnd := by
  intro s ⟨_, _, _, hphase, _⟩ hh
  cases hb : statusBusy s.status with
  | true =>
    have hp : s.phase ≠ .idle := by simpa [phaseWf, hb] using hphase
    obtain ⟨t, ht, -, hbusy, hdone⟩ := run_ends hp hh s.phase.stepsLeft_le
    exact ⟨t, ht, hbusy, fun _ => hdone⟩
  | false => exact ⟨s, run_of_idle (phaseWf_idle hphase hb) hh 3, hb, by simp⟩

/-- Settles O55: the step and the tick are the codec's own step, which fetches nothing; the wait finds `BUSY` = 0. -/
theorem idleCodecDoesNothing : Obligations.IdleCodecDoesNothing := by
  intro s hp
  refine ⟨fun h => ?_, fun rest h => ?_, fun rest h hb => ?_⟩
  · rw [step_of_host_nil h, codecStep_idle hp]
  · rw [step_of_tick h, codecStep_idle (s := { s with host := rest }) hp]
  · simp [step, h, hb]

/-- Settles O56: the step is the host's write, which `BUSY` = 1 cancels and a read-only port does not take. -/
theorem busyWritesAreIgnored : Obligations.BusyWritesAreIgnored := by
  intro p v s rest h hf
  rw [step_of_write h, hostWrite_eq v _ hf]
  refine ⟨fun hb => congrArg _ (if_pos hb), fun hp => ?_⟩
  rw [writePort_readOnly v _ hp, ite_self]
end
